-- ==== Sys2Proof/Word.lean ====
section
/-! DEFINITION. The word types of the 740's records and counters. -/

namespace Sys2Proof

/-- One byte of a record, as it stands on a link. -/
abbrev Byte := BitVec 8

/-- A two-byte field of a record; also the condition word and the sticky flags. -/
abbrev Word := BitVec 16

/-- A value of the time counter (section 4.2 of the introduction): 32 bits of milliseconds. -/
abbrev Time := BitVec 32

end Sys2Proof
end

