-- ==== Sys2Proof/Syntax.lean ====
section
/-! DEFINITION. The commands of the 740: one constructor of `Instr` per row of spec/opcode_table.json.

The table gives its rows no bits and no operands; the operands below are what the row's rule needs from
outside. An order row is the hand-over of one valid frame of that kind: its arrival link and its payload
bytes. A timer row is the moment its timer comes due. -/

namespace Sys2Proof

/-- The two serial links (R144): LP0 to the host, LP1 to the protection gateway. -/
inductive Link where
  | lp0 | lp1
deriving DecidableEq, Repr

/-- The two wheel channels (R51). -/
inductive WheelId where
  | a | b
deriving DecidableEq, Repr

/-- The two cadence generators (R106), in the order of their coding. -/
inductive Generator where
  | slow | fast
deriving DecidableEq, Repr

/-- The two conditions that cause a full reset (R168), in the order of R162's causes. -/
inductive ResetCause where
  | resetLine | supplyLow
deriving DecidableEq, Repr, Inhabited

/-- The receive lines at one moment, as SLEEP looks at them (R166): true is low. -/
structure Lines where
  lp0Low : Bool
  lp1Low : Bool
deriving DecidableEq, Repr

/-- Both receive lines high. -/
def Lines.high : Lines := ⟨false, false⟩

/-- The commands. -/
inductive Instr where
  -- orders: the arrival link and the payload of a valid frame
  | defineSlot (link : Link) (payload : List Byte)
  | defineAspect (link : Link) (payload : List Byte)
  | defineFault (link : Link) (payload : List Byte)
  | setSpeedParameters (link : Link) (payload : List Byte)
  | setLampChannel (link : Link) (payload : List Byte)
  | setCadence (link : Link) (payload : List Byte)
  | setKey (link : Link) (payload : List Byte)
  | setLink (link : Link) (payload : List Byte)
  | setGeneral (link : Link) (payload : List Byte)
  | start (link : Link) (payload : List Byte)
  | stop (link : Link) (payload : List Byte)
  | restart (link : Link) (payload : List Byte)
  | sleep (link : Link) (payload : List Byte) (lines : Lines)
  | update (link : Link) (payload : List Byte)
  | keepAlive (link : Link) (payload : List Byte)
  | raiseFault (link : Link) (payload : List Byte)
  | clearFault (link : Link) (payload : List Byte)
  | acknowledgeFault (link : Link) (payload : List Byte)
  | setConditions (link : Link) (payload : List Byte)
  | changeover (link : Link) (payload : List Byte)
  | referenceSpeed (link : Link) (payload : List Byte)
  | setWheel (link : Link) (payload : List Byte)
  | setDim (link : Link) (payload : List Byte)
  | lampTest (link : Link) (payload : List Byte)
  | lampReset (link : Link) (payload : List Byte)
  | resumeOutputs (link : Link) (payload : List Byte)
  | clearSpeedFlags (link : Link) (payload : List Byte)
  | queryStatus (link : Link) (payload : List Byte)
  | querySlot (link : Link) (payload : List Byte)
  | queryFaults (link : Link) (payload : List Byte)
  | queryCounters (link : Link) (payload : List Byte)
  | querySpeed (link : Link) (payload : List Byte)
  -- the receivers and transmitters
  | receiveByte (link : Link) (data : Byte) (parityBit stopBit : Bool) (lines : Lines)
  | gapError (link : Link)
  | lineBreak (link : Link)
  | frameSent (link : Link)
  | linkIntervalExpiry (link : Link)
  -- the Indication Table and changeover control
  | monitorExpiry (slot : Fin 64)
  | changeoverWindowExpiry
  -- the speed unit
  | wheelPhaseChange (wheel : WheelId) (phase1 phase2 : Bool)
  | windowEnd
  -- the lamp field
  | periodStart (generator : Generator)
  | switchingEnd (pair : Fin 12)
  | lampSample (channel : Fin 24) (current : Nat)
  | lampTestLimit
  | deskDarkLineChange (asserted : Bool)
  | deskDarkTaken
  -- supply, reset and wake
  | dipEntry
  | dipEnd
  | fullReset (cause : ResetCause)
  | wake (link : Link)
  -- keys, meter, chime and panel
  | keyScan (samples : Vector (BitVec 12) 6)
  | stuckTimerExpiry (key : Fin 6)
  | meterTargetReached
  | chimePatternEnd
  | panelRefreshExpiry
  | panelFrameEnd
  | supplyDipLevelCrossing (below : Bool)
  | resetRelease (cause : ResetCause)
  | breakEnd (link : Link)
deriving DecidableEq, Repr

end Sys2Proof
end

