-- ==== Sys2Proof/Decode.lean ====
section
/-! DEFINITION. Decoding of the table's words. No row of spec/opcode_table.json gives bits, so no word spells a
command. The frames of the links are decoded by Machine/Operands.lean (R147 to R161). -/

namespace Sys2Proof

/-- The command a word of the table spells: none, since no row gives bits. -/
def decodeTableWord (_nbits _w : Nat) : Option Instr := none

end Sys2Proof
end

