-- ==== Sys2Proof/Config.lean ====
section
/-! DEFINITION. The capacities the spec fixes and the free values: constants with no body, of which no proof can
know a value. -/

namespace Sys2Proof.Config

/-- Indication slots, 00_scope section 4.7. -/
def slotCount : Nat := 64

/-- Aspect map entries (R32). -/
def mapCapacity : Nat := 192

/-- Fault list entries (R81). -/
def listCapacity : Nat := 48

/-- Host catalogue entries (R77). -/
def catalogueCapacity : Nat := 256

/-- Frames per transmit queue (R152). -/
def queueCapacity : Nat := 8

/-- Free value (log 2): which of the timer events due at one moment is taken first. -/
opaque dueChoice : Nat → Nat

/-- Free value (log 7): the charge sample of a key's electrode, where no queued KEY_SCAN brings one. -/
opaque electrodeSample : Nat → Fin 6 → BitVec 12

/-- Free value (log 7): the current of a lamp channel, where no queued LAMP_SAMPLE brings one. -/
opaque senseCurrent : Nat → Fin 1001

/-- Free value (log 8): the cause a PHASE REPORT gives when both reset conditions were present. -/
opaque overlappingResetCause : Nat → ResetCause

/-- Free value (log 10): a channel's speed by the period method when the last two steps and the window end fall
within one microsecond, where R57 divides by 0. -/
opaque zeroIntervalSpeed : Nat → Fin 4001

/-- Free value (log 9): the bytes of a SLOT DATA definition that belong to no field of the slot's kind. -/
opaque ignoredByte : Nat → Nat → Byte

end Sys2Proof.Config
end

