-- ==== Sys2Proof/Machine/State.lean ====
section
/-! DEFINITION. The state of the 740 as plain data: every piece of state the spec gives the part, under the
block that owns it (section 2.1 of the introduction), the queue of waiting commands, and the state after reset. -/

namespace Sys2Proof.Machine

/-! ## Outcomes -/

/-- The 740 never stops: an order that fails is answered with REFUSE, a line error is counted, a condition inside the
part is raised into the fault list. No command ends in a fault, so the type has no constructor. -/
inductive Fault
deriving DecidableEq, Repr

/-- The reasons a command may have no meaning in the model. -/
inductive Refusal where
  /-- Raised by `exec` for a command that has no meaning yet; safe, since nothing is claimed of it. -/
  | notModelled (mnemonic : String)
deriving DecidableEq, Repr

/-! ## Lists of names, each in the order of its coding (R154) -/

/-- The phases (R162). -/
inductive Phase where
  | configuring | running | dormant
deriving DecidableEq, Repr

/-- The supply monitor's state (R168). -/
inductive SupplyState where
  | normal | dip
deriving DecidableEq, Repr

/-- What a wake does (R163, R167). -/
inductive WakeMode where
  | retain | reset
deriving DecidableEq, Repr

/-- Colour 1 or colour 2 of a lamp (R107). -/
inductive Colour where
  | one | two
deriving DecidableEq, Repr

/-- The cadence a pattern may name (section 2.1 of chapter 2). -/
inductive Cadence where
  | steady | slow | fast | attention
deriving DecidableEq, Repr

/-- Parity of a link (R145). -/
inductive Parity where
  | none | even | odd
deriving DecidableEq, Repr

/-- States of a receiver (R148). -/
inductive RxState where
  | hunt | length | body | checkHigh | checkLow
deriving DecidableEq, Repr

/-- The states of a slot (R6). -/
inductive SlotState where
  | undefined | awaiting | live | lapsed | transit
deriving DecidableEq, Repr

/-- The speed band (R25). -/
inductive BandState where
  | unknown | normal | warning
deriving DecidableEq, Repr

/-- A direction of a wheel or of the train (R58, R69). -/
inductive Direction where
  | forward | backward | unknown
deriving DecidableEq, Repr

/-- The status of a wheel channel at a window end (R59), as R160 codes it. -/
inductive WheelStatus where
  | good | failed | silent | slip | slide
deriving DecidableEq, Repr

/-- The action of the reference check (R53, R68). -/
inductive ReferenceAction where
  | report | withdraw
deriving DecidableEq, Repr

/-- The quality of a reference speed (R63). -/
inductive Quality where
  | good | degraded
deriving DecidableEq, Repr

/-- Where the displayed speed came from (section 3.7), as R160 codes it. -/
inductive Selection where
  | dual | a | b | reference | hold | none
deriving DecidableEq, Repr

/-- The class of a fault; A is the most serious (R76). -/
inductive FaultClass where
  | a | b | c
deriving DecidableEq, Repr

/-- The chime of a fault and the patterns of the chime generator (R76, R127). -/
inductive ChimePattern where
  | none | single | triple | continuous
deriving DecidableEq, Repr

/-- The acknowledgement states of an entry (section 4.3). -/
inductive EntryState where
  | activeUnacked | activeAcked | clearedUnacked
deriving DecidableEq, Repr

/-- The mode of a lamp pair (R104). -/
inductive PairMode where
  | single | bicolour
deriving DecidableEq, Repr

/-- The judgement of a lamp channel (R113): NORMAL, OPEN, SHORTED. -/
inductive LampCondition where
  | normal | openLamp | shorted
deriving DecidableEq, Repr

/-- The result of one lamp sample (R112). -/
inductive SampleResult where
  | ok | low | high
deriving DecidableEq, Repr

/-- The dim state (R110). -/
inductive DimState where
  | day | night
deriving DecidableEq, Repr

/-- The output state (R117). -/
inductive OutputState where
  | quiet | lit | dark | restorePending | resumeWait
deriving DecidableEq, Repr

/-- Who started a lamp test (R121). -/
inductive TestSource where
  | order | key
deriving DecidableEq, Repr

/-- The debounced state of a key (R139). -/
inductive KeyState where
  | released | pressed | stuck
deriving DecidableEq, Repr

/-- AGREE or DISAGREE (R62, R67). -/
inductive Accord where
  | agree | disagree
deriving DecidableEq, Repr

/-! ## Link ports (chapter 8) -/

/-- A record as queued for a frame: its kind and its payload (R147, R155). -/
structure Frame where
  kind : Byte
  payload : List Byte
deriving DecidableEq, Repr

/-- The settings of a link (R145); `rate` is the rate code 0 to 4. -/
structure LinkSettings where
  rate : Nat
  parity : Parity
  stopBits : Nat
  gapLimit : Nat
  enabled : Bool
deriving DecidableEq, Repr

/-- The defaults of R145. -/
def LinkSettings.default : LinkSettings := ⟨2, .even, 1, 5, true⟩

/-- A receiver (R148): its state, the partial frame, and the end of the last byte taken outside HUNT. -/
structure Receiver where
  state : RxState
  length : Nat
  body : List Byte
  checkHigh : Byte
  lastByteAt : Nat
deriving DecidableEq, Repr

/-- A receiver in HUNT with no partial frame. -/
def Receiver.hunting : Receiver := ⟨.hunt, 0, [], 0, 0⟩

/-- The six error counters of a receiver (R149), each 0 to 65535. -/
structure ErrorCounters where
  parity : Nat
  stop : Nat
  length : Nat
  check : Nat
  gap : Nat
  lineBreak : Nat
deriving DecidableEq, Repr

/-- All six counters 0. -/
def ErrorCounters.zero : ErrorCounters := ⟨0, 0, 0, 0, 0, 0⟩

/-- The link fault monitor (R150); `expiry` is the next end of its interval, absent while stopped. -/
structure LinkMonitor where
  expiry : Option Nat
  errors : Nat
  cleanRun : Nat
  mark : Bool
deriving DecidableEq, Repr

/-- The monitor stopped and cleared. -/
def LinkMonitor.stopped : LinkMonitor := ⟨none, 0, 0, false⟩

/-- One link port. The head of `queue` is the frame in transmission (section 8.5), begun at `txStart`. -/
structure Port where
  settings : LinkSettings
  pendingSettings : Option LinkSettings
  receiver : Receiver
  /-- Bytes that began before this moment are not taken (R146, R167); absent once it no longer matters. -/
  notBefore : Option Nat
  /-- The receive line is held low: a break is in progress (R149). -/
  lineLow : Bool
  /-- The moment from which the line can have been low for 1 ms: after its fall in a break, or after it last rose; absent
  once it is reached (R167). -/
  wakesFrom : Option Nat
  /-- The moment at which a low period of the line woke the part; absent once that period is known to be over (R167). -/
  wokeAt : Option Nat
  counters : ErrorCounters
  queue : List Frame
  txStart : Nat
  reportLost : Nat
  replyLost : Nat
  monitor : LinkMonitor
deriving DecidableEq, Repr

/-- A port at its full-reset values (R145, R153). -/
def Port.cleared : Port :=
  { settings := .default, pendingSettings := none, receiver := .hunting, notBefore := none, lineLow := false
    wakesFrom := none, wokeAt := none, counters := .zero, queue := [], txStart := 0, reportLost := 0, replyLost := 0
    monitor := .stopped }

/-! ## The Indication Table (chapter 1) -/

/-- A setting of a lamp position (section 5.2). -/
inductive Setting where
  | off
  | steady (colour : Colour)
  | slow (colour : Colour)
  | fast (colour : Colour)
  | attention (colour : Colour) (count : Nat)
deriving DecidableEq, Repr

/-- The part of a slot definition that belongs to its kind (section 1.1). A NUMBER fallback of `none` is BLANK and an
absent range stands for -32767 to 32767. -/
inductive SlotBody where
  | number (fallback : Option Int) (field : Option Nat) (range : Option (Int × Int)) (places : Nat)
  | aspect (fallback : Nat) (group : List Nat) (attention : Bool) (count : Nat)
  | state (fallback : Nat) (position : Nat)
deriving DecidableEq, Repr

/-- A slot definition (section 1.1); bit n of a set is source n (R154). -/
structure SlotDef where
  owner : Byte
  refresh : Byte
  deadline : Nat
  body : SlotBody
  lapseAlarm : Bool
deriving DecidableEq, Repr

/-- A freshness monitor (R13). -/
inductive Monitor where
  | stopped
  | armed (expiry : Time)
  | suspended
deriving DecidableEq, Repr

/-- What a slot last presented (R19): the content against which a change is judged, and the presented settings that
R115 assesses. A NUMBER content of `none` is BLANK. -/
inductive Shown where
  | nothing
  | number (value : Option Int)
  | aspect (settings : List (Nat × Setting))
  | state (setting : Setting)
deriving DecidableEq, Repr

/-- One slot: its definition and its run state (section 1.3). -/
structure Slot where
  definition : Option SlotDef
  state : SlotState
  value : Option Word
  lastSource : Option Nat
  lastUpdate : Option Time
  monitor : Monitor
  lapses : Nat
  rank : Option Nat
  degraded : Bool
  shown : Shown
deriving DecidableEq, Repr

/-- A slot without definition and run state (R2, R28). -/
def Slot.undefined : Slot := ⟨none, .undefined, none, none, none, .stopped, 0, none, false, .nothing⟩

/-- The fixed definition of slot 0 (R3). -/
def SlotDef.displayedSpeed : SlotDef := ⟨0x20, 0, 16, .number none (some 0) (some (0, 4000)) 1, false⟩

/-- Slot 0 after a full reset (R28). -/
def Slot.displayedSpeed : Slot := { Slot.undefined with definition := some .displayedSpeed, state := .awaiting }

/-! ## The aspect map and changeover control (chapter 2) -/

/-- One lamp setting of a pattern. -/
structure PatternSetting where
  position : Nat
  colour : Colour
  cadence : Cadence
deriving DecidableEq, Repr

/-- One entry of the aspect map, keyed by system and code (R32). -/
structure AspectEntry where
  system : Nat
  code : Nat
  rank : Nat
  pattern : List PatternSetting
deriving DecidableEq, Repr

/-- What changeover control holds while IN TRANSIT (section 2.5). -/
structure Transit where
  left : Nat
  start : Time
  expiry : Time
deriving DecidableEq, Repr

/-- Changeover control (R38); the state is IDLE when `transit` is absent. -/
structure Changeover where
  active : Nat
  transit : Option Transit
  incomplete : Bool
deriving DecidableEq, Repr

/-- The full-reset values of R38. -/
def Changeover.cleared : Changeover := ⟨1, none, false⟩

/-! ## The speed unit (chapter 3) -/

/-- The settings of SET SPEED PARAMETERS (section 3.2). -/
structure SpeedSettings where
  windowLength : Nat
  standstillTime : Nat
  accelLimit : Nat
  absoluteTolerance : Nat
  relativeTolerance : Nat
  confirmCount : Nat
  holdLimit : Nat
  referenceDeadline : Nat
  referenceAction : ReferenceAction
  reportInterval : Nat
  wheelDiameter : Nat
  pulses : Nat
deriving DecidableEq, Repr

/-- The defaults of section 3.2. -/
def SpeedSettings.default : SpeedSettings := ⟨200, 2000, 25, 20, 6, 3, 5, 7, .report, 0, 1100, 100⟩

/-- One wheel channel: the decoder (R51), the results of the last window end (R57 to R59), and the sensor-loss
state (R60). Times and intervals are in microseconds. -/
structure Wheel where
  lastPair : Option (Bool × Bool)
  steps : Int
  stepFlag : Bool
  errors : Nat
  lastStep : Option Nat
  lastDirection : Option Direction
  lastInterval : Option Nat
  speed : Option Nat
  status : Option WheelStatus
  direction : Option Direction
  previous : Option Nat
  silentRun : Nat
  lost : Bool
deriving DecidableEq, Repr

/-- A wheel channel's cleared run state (R75). -/
def Wheel.cleared : Wheel :=
  ⟨none, 0, false, 0, none, none, none, none, none, none, none, 0, false⟩

/-- A state of agreement with its two runs (R62, R67). -/
structure Agreement where
  accord : Accord
  mismatchRun : Nat
  agreeRun : Nat
deriving DecidableEq, Repr

/-- AGREE with both runs 0. -/
def Agreement.cleared : Agreement := ⟨.agree, 0, 0⟩

/-- The reference record (R63); `stale` is the judgement that R64 keeps until the record is replaced. -/
structure Reference where
  source : Nat
  speed : Nat
  quality : Quality
  arrival : Time
  stale : Bool
deriving DecidableEq, Repr

/-- The speed unit. The STANDSTILL flag it keeps is flag 12 of the condition word. -/
structure SpeedUnit where
  settings : SpeedSettings
  pendingWheel : Option (Nat × Nat)
  windowEnd : Option Time
  wheelA : Wheel
  wheelB : Wheel
  disagreement : Agreement
  referenceCheck : Agreement
  reference : Option Reference
  selection : Selection
  displayed : Option Nat
  holdCount : Nat
  direction : Direction
  lowRun : Nat
  windowCount : Nat
  sticky : Word
deriving DecidableEq, Repr

/-- The speed unit at its full-reset values (R75). -/
def SpeedUnit.cleared : SpeedUnit :=
  { settings := .default, pendingWheel := none, windowEnd := none, wheelA := .cleared, wheelB := .cleared
    disagreement := .cleared, referenceCheck := .cleared, reference := none, selection := .none, displayed := none
    holdCount := 0, direction := .unknown, lowRun := 0, windowCount := 0, sticky := 0 }

/-! ## The fault list (chapter 4) -/

/-- How the list treats a fault code (R78). -/
structure Treatment where
  cls : FaultClass
  mask : Word
  mtch : Word
  chime : ChimePattern
  text : Nat
deriving DecidableEq, Repr

/-- A host catalogue entry, keyed by base code and width (section 4.1). -/
structure CatalogueEntry where
  base : Nat
  width : Nat
  treatment : Treatment
deriving DecidableEq, Repr

/-- One entry of the fault list (section 4.3). -/
structure Entry where
  code : Nat
  origin : Nat
  treatment : Treatment
  state : EntryState
  occurrences : Nat
  firstRaised : Time
  lastChange : Time
  parameter : Option Word
  visible : Bool
deriving DecidableEq, Repr

/-- The fault list (R103). -/
structure FaultList where
  catalogue : List CatalogueEntry
  entries : List Entry
  conditions : Word
  cursor : Nat
  moreFaults : Bool
  dropped : Nat
  demand : Bool
deriving DecidableEq, Repr

/-- The full-reset values of R103. -/
def FaultList.cleared : FaultList := ⟨[], [], 0, 0, false, 0, false⟩

/-! ## The lamp field (chapter 5) -/

/-- The settings of one channel of a pair (R104). -/
structure ChannelSettings where
  day : Nat
  night : Nat
  openThreshold : Nat
  shortThreshold : Nat
deriving DecidableEq, Repr

/-- The settings of one pair (R104); the dead time is in 0.1 ms. -/
structure PairSettings where
  mode : PairMode
  deadTime : Nat
  lower : ChannelSettings
  upper : ChannelSettings
deriving DecidableEq, Repr

/-- The defaults of R104. -/
def PairSettings.default : PairSettings := ⟨.single, 5, ⟨63, 16, 20, 600⟩, ⟨63, 16, 20, 600⟩⟩

/-- The period a generator is in: its start and its on and off times, in microseconds. -/
structure Period where
  start : Nat
  onTime : Nat
  offTime : Nat
deriving DecidableEq, Repr

/-- A cadence generator (R106): its codes and the period in progress, absent while stopped. -/
structure CadenceGenerator where
  onCode : Nat
  offCode : Nat
  period : Option Period
deriving DecidableEq, Repr

/-- The active setting of a position (section 5.2). -/
inductive Active where
  | off
  | steady (colour : Colour)
  | slow (colour : Colour)
  | fast (colour : Colour)
  | run (colour : Colour) (count : Nat) (progress : Nat)
deriving DecidableEq, Repr

/-- What the lamp field holds for a position (section 5.2). -/
structure Position where
  requested : Setting
  waiting : Option Setting
  active : Active
deriving DecidableEq, Repr

/-- A position with nothing requested (R123). -/
def Position.cleared : Position := ⟨.off, none, .off⟩

/-- The drive of a BICOLOUR pair (R111); `switching` is the end of the dead time, absent in IDLE. -/
structure Drive where
  driven : Option Colour
  switching : Option Nat
deriving DecidableEq, Repr

/-- Driven colour NONE, switching IDLE. -/
def Drive.cleared : Drive := ⟨none, none⟩

/-- What the lamp field holds for a channel (section 5.2). `flashed` is the start of the on-phase whose flashing sample
has been taken. -/
structure LampChannel where
  condition : LampCondition
  lastResult : Option (SampleResult × Nat)
  steadyAt : Option Nat
  flashed : Option Nat
deriving DecidableEq, Repr

/-- A channel at its cleared values (R123). -/
def LampChannel.cleared : LampChannel := ⟨.normal, none, none, none⟩

/-- A lamp test in progress (R121, R122). -/
structure LampTest where
  source : TestSource
  endTime : Time
  colour : Colour
deriving DecidableEq, Repr

/-- The lamp field. The CAB DARK and LAMP TEST flags it keeps are flags 13 and 15 of the condition word. -/
structure LampField where
  pairs : Vector PairSettings 12
  slowGenerator : CadenceGenerator
  fastGenerator : CadenceGenerator
  positions : Vector Position 24
  drives : Vector Drive 12
  channels : Vector LampChannel 24
  dim : DimState
  output : OutputState
  test : Option LampTest
  /-- The lamp field's copy of the supply state (R116). -/
  supply : SupplyState
deriving DecidableEq, Repr

/-- The lamp field at its full-reset values (R123). -/
def LampField.cleared : LampField :=
  { pairs := .replicate 12 .default, slowGenerator := ⟨10, 10, none⟩, fastGenerator := ⟨7, 7, none⟩
    positions := .replicate 24 .cleared, drives := .replicate 12 .cleared, channels := .replicate 24 .cleared
    dim := .day, output := .quiet, test := none, supply := .normal }

/-! ## Meter, chime and panel (chapter 6) -/

/-- The meter driver (section 6.1). The duty is held in 1/12000 per mille: at a slew time of t seconds it moves by
12/t of these in a microsecond, which is whole for t = 1 to 4. -/
structure Meter where
  speedTarget : Nat
  testFlag : Bool
  duty : Nat
  moving : Bool
deriving DecidableEq, Repr

/-- The meter driver after a reset (R126). -/
def Meter.cleared : Meter := ⟨0, false, 0, false⟩

/-- The chime generator (R127): the sounding pattern with its start, the pending request, whether a CONTINUOUS request
is held, and whether the sounding pattern waited in pending and began at the end of another (R130, row 1; log 34). -/
structure Chime where
  sounding : Option (ChimePattern × Nat)
  pending : ChimePattern
  continuousHeld : Bool
  succeeded : Bool
deriving DecidableEq, Repr

/-- The chime generator after a reset (R131). -/
def Chime.cleared : Chime := ⟨none, .none, false, false⟩

/-- A panel record in transmission (R134). -/
structure PanelFrame where
  frame : Frame
  start : Nat
deriving DecidableEq, Repr

/-- The panel transmitter (R133, R134): bit n of the dirty set is item n. -/
structure Panel where
  dirty : BitVec 21
  sending : Option PanelFrame
  refresh : Option Nat
deriving DecidableEq, Repr

/-! ## The key scanner (chapter 7) -/

/-- The settings of a key (R136). -/
structure KeySettings where
  discharge : Nat
  charge : Nat
  touch : Nat
  release : Nat
  stuckLimit : Nat
  reports : Byte
deriving DecidableEq, Repr

/-- The defaults of R136. -/
def KeySettings.default : KeySettings := ⟨8, 16, 200, 120, 20, 1⟩

/-- What the scanner holds for a key (section 7.2); `sampleSum` is the sum of the samples counted so far, from which
R138 forms the mean. -/
structure Key where
  settings : KeySettings
  lastSample : Option (BitVec 12)
  sampleCount : Nat
  sampleSum : Nat
  baseline : Option Nat
  track : Nat
  state : KeyState
  run : Nat
  pressTime : Option Time
  stuckTimer : Option Time
deriving DecidableEq, Repr

/-- A key's cleared run state (R143), with given settings. -/
def Key.cleared (settings : KeySettings) : Key :=
  ⟨settings, none, 0, 0, none, 0, .released, 0, none, none⟩

/-- The key scanner (R137, R141). -/
structure KeyScanner where
  keys : Vector Key 6
  scanAt : Option Nat
  outputHeld : OutputState
deriving DecidableEq, Repr

/-- The key scanner at its full-reset values (R143). -/
def KeyScanner.cleared : KeyScanner := ⟨.replicate 6 (Key.cleared .default), none, .quiet⟩

/-! ## Phase control (chapter 10) and the pins -/

/-- The general settings (R161, R163). -/
structure General where
  initialSystem : Nat
  windowCode : Nat
  autoRestore : Bool
  wakeMode : WakeMode
  fullScale : Nat
  slewTime : Nat
  permittedSlot : Option (Fin 64)
  margin : Nat
  hysteresis : Nat
  bandLamp : Option (Fin 24 × Colour)
  bandChime : Bool
  testLimit : Nat
deriving DecidableEq, Repr

/-- The defaults of R163. -/
def General.default : General := ⟨1, 12, true, .retain, 2500, 2, none, 30, 20, none, false, 10⟩

/-- The supply monitor (R168); `since` is when the supply last crossed the dip level. -/
structure Supply where
  state : SupplyState
  raised : Bool
  below : Bool
  since : Nat
deriving DecidableEq, Repr

/-- The conditions that hold the part in reset, and the cause of the latest full reset (R168). -/
structure ResetControl where
  lineAsserted : Bool
  supplyLow : Bool
  cause : ResetCause
deriving DecidableEq, Repr

/-- The wait of R166 and the entry to DORMANT (R167); `dormantAt` is absent once 1 ms has passed. -/
structure SleepControl where
  waiting : Bool
  dormantAt : Option Nat
deriving DecidableEq, Repr

/-- The desk-dark line (R116): its level and the moment from which it has stood. -/
structure DeskDark where
  asserted : Bool
  since : Nat
deriving DecidableEq, Repr

/-- The levels of the wheel phase inputs (R51). -/
structure WheelPins where
  a : Bool × Bool
  b : Bool × Bool
deriving DecidableEq, Repr

/-! ## The whole part -/

/-- The state of the 740. -/
structure State where
  /-- The time counter with its microseconds: microseconds since the full reset, modulo 2^32 ms. -/
  clock : Nat
  phase : Phase
  supply : Supply
  resets : ResetControl
  sleep : SleepControl
  general : General
  lp0 : Port
  lp1 : Port
  table : Vector Slot 64
  band : BandState
  aspects : List AspectEntry
  changeover : Changeover
  speed : SpeedUnit
  faults : FaultList
  lamps : LampField
  meter : Meter
  chime : Chime
  panel : Panel
  keys : KeyScanner
  deskDark : DeskDark
  wheelPins : WheelPins
  /-- The model's own counter at which free values are read. -/
  fresh : Nat
  /-- The commands waiting, first in first out. -/
  pending : List Instr
deriving DecidableEq, Repr

/-- Every block at its full-reset values, with empty queues and idle lines: the part as it is held in reset. -/
def State.cleared : State :=
  { clock := 0, phase := .configuring
    supply := ⟨.normal, false, false, 0⟩
    resets := ⟨false, false, .supplyLow⟩
    sleep := ⟨false, none⟩
    general := .default
    lp0 := .cleared, lp1 := .cleared
    table := (Vector.replicate 64 Slot.undefined).set 0 .displayedSpeed
    band := .unknown, aspects := [], changeover := .cleared
    speed := .cleared, faults := .cleared, lamps := .cleared
    meter := .cleared, chime := .cleared
    panel := ⟨0x1fffff, none, none⟩
    keys := .cleared
    deskDark := ⟨false, 0⟩
    wheelPins := ⟨(false, false), (false, false)⟩
    fresh := 0, pending := [] }

/-- The machine right after reset (R168): every block at its full-reset values, the PHASE REPORT of the reset in
transmission on LP0, and the status item, first of the 21 dirty items, in transmission on the panel line (R135). -/
def State.reset : State :=
  { State.cleared with
    lp0 := { Port.cleared with
      queue := [⟨0x50, [0, 1, 0, 0, 0, 0, 0]⟩], notBefore := some 0 }
    lp1 := { Port.cleared with notBefore := some 0 }
    panel := ⟨0x1ffffe, some ⟨⟨0x60, [0, 1, 0, 2, 0, 0, 0, 0, 0, 0, 0]⟩, 0⟩, some 1000000⟩ }

end Sys2Proof.Machine
end

