-- ==== Sys2Proof/Machine/Operands.lean ====
section
/-! DEFINITION. The codings of the records (R154), the operands of the order kinds as their payload bytes give them,
and the table by which an order is accepted at hand-over (R151, R155). -/

namespace Sys2Proof.Machine

/-! ## Codings of R154 -/

/-- A number in one byte. -/
def b8 (n : Nat) : List Byte := [BitVec.ofNat 8 n]

/-- A two-byte field, high byte first. -/
def b16 (w : Word) : List Byte := [w.extractLsb' 8 8, w.extractLsb' 0 8]

/-- A number in two bytes. -/
def n16 (n : Nat) : List Byte := b16 (BitVec.ofNat 16 n)

/-- A four-byte field, high byte first: a time, an age or an elapsed time. -/
def b32 (t : Time) : List Byte :=
  [t.extractLsb' 24 8, t.extractLsb' 16 8, t.extractLsb' 8 8, t.extractLsb' 0 8]

/-- A yes/no field. -/
def flag (b : Bool) : List Byte := [if b then 1 else 0]

/-- An optional field of `width` bytes: a presence byte, then the field, or zeros when absent. -/
def optional (width : Nat) : Option (List Byte) → List Byte
  | some bytes => 1 :: bytes
  | none => 0 :: List.replicate width 0

/-- Byte `i` of a payload. -/
def byteAt (p : List Byte) (i : Nat) : Byte := p.getD i 0

/-- Byte `i` of a payload as a number. -/
def natAt (p : List Byte) (i : Nat) : Nat := (byteAt p i).toNat

/-- The two bytes from byte `i` of a payload, high byte first. -/
def wordAt (p : List Byte) (i : Nat) : Word := byteAt p i ++ byteAt p (i + 1)

/-- The same as an unsigned number. -/
def nat16At (p : List Byte) (i : Nat) : Nat := (wordAt p i).toNat

/-- The same as a signed number. -/
def int16At (p : List Byte) (i : Nat) : Int := (wordAt p i).toInt

/-- A yes/no byte of an order stands for an allowed value (R154). -/
def isFlag (n : Nat) : Bool := n ≤ 1

/-- Bit n of a one-byte set. -/
def memberOf (n : Nat) (set : Byte) : Bool := set.getLsbD n

/-- A value lies in a range, both ends included. -/
def within (lo hi n : Nat) : Bool := lo ≤ n && n ≤ hi

/-! ### Named lists, numbered from 0 in the order they are listed -/

def Phase.code : Phase → Nat | .configuring => 0 | .running => 1 | .dormant => 2
def SupplyState.code : SupplyState → Nat | .normal => 0 | .dip => 1
def BandState.code : BandState → Nat | .unknown => 0 | .normal => 1 | .warning => 2
def SlotState.code : SlotState → Nat | .undefined => 0 | .awaiting => 1 | .live => 2 | .lapsed => 3 | .transit => 4
def Direction.code : Direction → Nat | .forward => 0 | .backward => 1 | .unknown => 2
def WheelStatus.code : WheelStatus → Nat | .good => 0 | .failed => 1 | .silent => 2 | .slip => 3 | .slide => 4
def Quality.code : Quality → Nat | .good => 0 | .degraded => 1
def Selection.code : Selection → Nat
  | .dual => 0 | .a => 1 | .b => 2 | .reference => 3 | .hold => 4 | .none => 5
def Accord.code : Accord → Nat | .agree => 0 | .disagree => 1
def FaultClass.code : FaultClass → Nat | .a => 0 | .b => 1 | .c => 2
def ChimePattern.code : ChimePattern → Nat | .none => 0 | .single => 1 | .triple => 2 | .continuous => 3
def EntryState.code : EntryState → Nat | .activeUnacked => 0 | .activeAcked => 1 | .clearedUnacked => 2
def LampCondition.code : LampCondition → Nat | .normal => 0 | .openLamp => 1 | .shorted => 2
def DimState.code : DimState → Nat | .day => 0 | .night => 1
def OutputState.code : OutputState → Nat
  | .quiet => 0 | .lit => 1 | .dark => 2 | .restorePending => 3 | .resumeWait => 4

/-- The lamp test state as R154 codes it. -/
def testCode : Option LampTest → Nat
  | none => 0
  | some t => match t.source with | .order => 1 | .key => 2

/-- The number of a link. -/
def linkCode : Link → Nat | .lp0 => 0 | .lp1 => 1

def colourOf (n : Nat) : Colour := if n = 2 then .two else .one
def cadenceOf : Nat → Cadence | 0 => .steady | 1 => .slow | 2 => .fast | _ => .attention
def faultClassOf : Nat → FaultClass | 0 => .a | 1 => .b | _ => .c
def chimeOf : Nat → ChimePattern | 0 => .none | 1 => .single | 2 => .triple | _ => .continuous
def parityOf : Nat → Parity | 0 => .none | 1 => .even | _ => .odd

/-! ## Refusals (R156) -/

/-- The reasons of REFUSE, in the order of their codes 1 to 20. -/
inductive Reason where
  | wrongPhase | wrongLink | badLength | unknownKind | badField | badSource | noSlot | notOwner | notActiveSystem
  | badValue | duplicateSlot | reservedSlot | tableFull | noEntry | listFull | notAtStandstill | configInvalid
  | lineActive | notDark | testBlocked
deriving DecidableEq, Repr

/-- The code of a reason (R156). -/
def Reason.code : Reason → Nat
  | .wrongPhase => 1 | .wrongLink => 2 | .badLength => 3 | .unknownKind => 4 | .badField => 5 | .badSource => 6
  | .noSlot => 7 | .notOwner => 8 | .notActiveSystem => 9 | .badValue => 10 | .duplicateSlot => 11
  | .reservedSlot => 12 | .tableFull => 13 | .noEntry => 14 | .listFull => 15 | .notAtStandstill => 16
  | .configInvalid => 17 | .lineActive => 18 | .notDark => 19 | .testBlocked => 20

/-- One check of an order: whether it passes, and the reason and item index of the refusal when it does not. -/
structure Check where
  passes : Bool
  reason : Reason
  item : Nat
deriving DecidableEq, Repr

/-- A field check: refused with BAD FIELD and the item index. -/
def field (item : Nat) (passes : Bool) : Check := ⟨passes, .badField, item⟩

/-- The first check that fails, in the order listed: every owning block checks its fields so. -/
def firstFailure : List Check → Option (Reason × Nat)
  | [] => none
  | c :: rest => if c.passes then firstFailure rest else some (c.reason, c.item)

/-! ## Order kinds (R155) -/

/-- The order kinds. -/
inductive OrderKind where
  | defineSlot | defineAspect | defineFault | setSpeedParameters | setLampChannel | setCadence | setKey | setLink
  | setGeneral | start | stop | restart | sleep | update | keepAlive | raiseFault | clearFault | acknowledgeFault
  | setConditions | changeover | referenceSpeed | setWheel | setDim | lampTest | lampReset | resumeOutputs
  | clearSpeedFlags | queryStatus | querySlot | queryFaults | queryCounters | querySpeed
deriving DecidableEq, Repr

/-- The kind code of an order (R155). -/
def OrderKind.code : OrderKind → Byte
  | .defineSlot => 0x10 | .defineAspect => 0x11 | .defineFault => 0x12 | .setSpeedParameters => 0x13
  | .setLampChannel => 0x14 | .setCadence => 0x15 | .setKey => 0x16 | .setLink => 0x17 | .setGeneral => 0x18
  | .start => 0x19 | .stop => 0x1A | .restart => 0x1B | .sleep => 0x1C | .update => 0x20 | .keepAlive => 0x21
  | .raiseFault => 0x22 | .clearFault => 0x23 | .acknowledgeFault => 0x24 | .setConditions => 0x25
  | .changeover => 0x26 | .referenceSpeed => 0x27 | .setWheel => 0x28 | .setDim => 0x29 | .lampTest => 0x2A
  | .lampReset => 0x2B | .resumeOutputs => 0x2C | .clearSpeedFlags => 0x2D | .queryStatus => 0x30
  | .querySlot => 0x31 | .queryFaults => 0x32 | .queryCounters => 0x33 | .querySpeed => 0x34

/-- All order kinds, in the order of their codes. -/
def OrderKind.all : List OrderKind :=
  [.defineSlot, .defineAspect, .defineFault, .setSpeedParameters, .setLampChannel, .setCadence, .setKey, .setLink,
   .setGeneral, .start, .stop, .restart, .sleep, .update, .keepAlive, .raiseFault, .clearFault, .acknowledgeFault,
   .setConditions, .changeover, .referenceSpeed, .setWheel, .setDim, .lampTest, .lampReset, .resumeOutputs,
   .clearSpeedFlags, .queryStatus, .querySlot, .queryFaults, .queryCounters, .querySpeed]

/-- The order kind of a kind byte; a reply, report or panel record kind, or a code not listed, is none (R151). -/
def OrderKind.ofCode (code : Byte) : Option OrderKind := OrderKind.all.find? (fun k => k.code == code)

/-- The payload length is right for the kind (R155). For DEFINE ASPECT the fifth byte is the setting count. -/
def OrderKind.lengthFits (k : OrderKind) (p : List Byte) : Bool :=
  match k with
  | .defineSlot => p.length == 29
  | .defineAspect => 5 ≤ p.length && p.length == 5 + 3 * natAt p 4
  | .defineFault => p.length == 12
  | .setSpeedParameters => p.length == 16
  | .setLampChannel => p.length == 15
  | .setCadence => p.length == 3
  | .setKey => p.length == 9
  | .setLink => p.length == 6
  | .setGeneral => p.length == 14
  | .start | .stop | .restart | .sleep | .resumeOutputs | .queryStatus | .queryCounters | .querySpeed => p.length == 0
  | .update => 5 ≤ p.length && p.length ≤ 38 && (p.length - 2) % 3 == 0
  | .keepAlive | .setDim | .lampTest | .lampReset | .querySlot => p.length == 1
  | .raiseFault => p.length == 3 || p.length == 5
  | .clearFault => p.length == 3
  | .acknowledgeFault | .referenceSpeed | .setWheel => p.length == 4
  | .setConditions | .changeover | .queryFaults => p.length == 2
  | .clearSpeedFlags => p.length ≤ 10

/-- The kind is accepted on the link (R155). -/
def OrderKind.onLink (k : OrderKind) (l : Link) : Bool :=
  match l, k with
  | .lp0, _ => true
  | .lp1, .update | .lp1, .keepAlive | .lp1, .raiseFault | .lp1, .clearFault | .lp1, .referenceSpeed
  | .lp1, .queryStatus | .lp1, .querySlot | .lp1, .queryFaults | .lp1, .queryCounters | .lp1, .querySpeed => true
  | .lp1, _ => false

/-- The kind is accepted in the phase (R155). -/
def OrderKind.inPhase (k : OrderKind) (phase : Phase) : Bool :=
  match k, phase with
  | _, .dormant => false
  | .defineSlot, ph | .defineAspect, ph | .defineFault, ph | .setSpeedParameters, ph | .setLampChannel, ph
  | .setKey, ph | .setLink, ph | .setGeneral, ph | .start, ph => ph == .configuring
  | .setCadence, _ | .restart, _ | .sleep, _ | .setWheel, _ | .queryStatus, _ | .querySlot, _ | .queryFaults, _
  | .queryCounters, _ | .querySpeed, _ => true
  | _, ph => ph == .running

/-- The tests of the hand-over after UNKNOWN KIND, in their order (R151). -/
def OrderKind.handOverRefusal (k : OrderKind) (l : Link) (p : List Byte) (phase : Phase) : Option Reason :=
  if !k.lengthFits p then some .badLength
  else if !k.onLink l then some .wrongLink
  else if !k.inPhase phase then some .wrongPhase
  else none

/-- The source of an UPDATE, KEEP ALIVE or REFERENCE SPEED is allowed on its arrival link (R8). -/
def sourceAllowed (l : Link) (source : Nat) : Bool :=
  match l with
  | .lp0 => source ≤ 4
  | .lp1 => within 1 4 source

/-! ## Tables of the introduction -/

/-- The deadline table (section 4.5), in ms; codes above 15 have no deadline. -/
def deadlineMs : Nat → Nat
  | 0 => 100 | 1 => 150 | 2 => 200 | 3 => 300 | 4 => 400 | 5 => 500 | 6 => 750 | 7 => 1000
  | 8 => 1500 | 9 => 2000 | 10 => 3000 | 11 => 4000 | 12 => 5000 | 13 => 7500 | 14 => 10000 | 15 => 20000
  | _ => 0

/-- The cadence time table (section 4.6), in ms. -/
def cadenceMs : Nat → Nat
  | 0 => 40 | 1 => 60 | 2 => 80 | 3 => 100 | 4 => 125 | 5 => 160 | 6 => 200 | 7 => 250
  | 8 => 320 | 9 => 400 | 10 => 500 | 11 => 640 | 12 => 800 | 13 => 1000 | 14 => 1250 | 15 => 1600
  | _ => 0

/-- The rates of R145, numbered 0 to 4 in section 9.5, in baud. -/
def baud : Nat → Nat
  | 0 => 9600 | 1 => 19200 | 2 => 38400 | 3 => 57600 | _ => 115200

end Sys2Proof.Machine
end

