-- ==== Sys2Proof/Machine/Flags.lean ====
section
/-! DEFINITION. The flag words: the condition word with the test of visibility (R79, R80), the sticky result flags of
the speed unit (R71), the panel's dirty set (R133), and the parity and check of the links (R147, R149). -/

namespace Sys2Proof.Machine

/-- A word with bit `i` set or cleared. -/
def withBit {w : Nat} (word : BitVec w) (i : Nat) (value : Bool) : BitVec w :=
  if value then word ||| BitVec.twoPow w i else word &&& ~~~(BitVec.twoPow w i)

/-! ## The condition word (section 4.2) -/

/-- Flag 12, kept by the speed unit. -/
def standstillBit : Nat := 12
/-- Flag 13, kept by the lamp field. -/
def cabDarkBit : Nat := 13
/-- Flag 14, kept by changeover control. -/
def changeoverBit : Nat := 14
/-- Flag 15, kept by the lamp field. -/
def lampTestBit : Nat := 15

/-- The host's flags C0 to C11. -/
def hostFlags : Word := 0x0fff

/-- The condition word with C0 to C11 replaced by the bits of an order; its bits 12 to 15 are ignored (R79). -/
def withHostFlags (conditions given : Word) : Word := (conditions &&& ~~~hostFlags) ||| (given &&& hostFlags)

/-- An entry is visible when the condition word, restricted to the mask, equals the match (R80). -/
def visibleUnder (conditions mask mtch : Word) : Bool := (conditions &&& mask) == mtch

/-- STANDSTILL, CHANGEOVER and LAMP TEST clear, CAB DARK and the host's flags kept: the word as RUNNING is left (R79). -/
def conditionsOnLeaving (conditions : Word) : Word :=
  withBit (withBit (withBit conditions standstillBit false) changeoverBit false) lampTestBit false

/-- The word at START: the host's flags clear as well (R79). -/
def conditionsAtStart (conditions : Word) : Word := withHostFlags (conditionsOnLeaving conditions) 0

/-! ## Sticky result flags (section 3.9): flag n is bit n - 1 (R160) -/

/-- The sticky word with flag `n` set when its condition is met; a flag is left set until it is cleared (R71). -/
def setSticky (n : Nat) (met : Bool) (sticky : Word) : Word := if met then withBit sticky (n - 1) true else sticky

/-- The sticky word with the listed flags cleared (R72). -/
def clearSticky (flags : List Nat) (sticky : Word) : Word :=
  flags.foldl (fun w n => withBit w (n - 1) false) sticky

/-! ## Saturating counts (section 4.1) -/

/-- A count increased by 1 and held at its upper limit. -/
def saturate (limit n : Nat) : Nat := if n < limit then n + 1 else n

/-! ## The links -/

/-- The number of ones of a byte is odd. -/
def oddOnes (b : Byte) : Bool :=
  (List.range 8).foldl (fun acc i => acc ^^ b.getLsbD i) false

/-- The parity bit of a byte, when the link has one: it makes the number of ones even or odd (R144). -/
def parityBitOf (parity : Parity) (data : Byte) : Option Bool :=
  match parity with
  | .none => none
  | .even => some (oddOnes data)
  | .odd => some (!oddOnes data)

/-- The parity bit received with a byte is wrong for the link's parity (R144, R149). -/
def parityWrong (parity : Parity) (data : Byte) (parityBit : Bool) : Bool :=
  (parityBitOf parity data).any (fun b => b != parityBit)

/-- The levels a byte sent puts on a line, each for one bit time (R144): start bit, data bits least significant first,
the parity bit when there is one, stop bits. -/
def byteBits (parity : Parity) (stopBits : Nat) (data : Byte) : List Bool :=
  false :: (List.range 8).map data.getLsbD ++ (parityBitOf parity data).toList ++ List.replicate stopBits true

/-- One bit of the CRC: polynomial 1021 hex, most significant bit first. -/
def crcBit (crc : Word) : Word :=
  if crc.getLsbD 15 then (crc <<< (1 : Nat)) ^^^ 0x1021 else crc <<< (1 : Nat)

/-- One byte of the CRC. -/
def crcByte (crc : Word) (b : Byte) : Word :=
  (List.range 8).foldl (fun c _ => crcBit c) (crc ^^^ (b.setWidth 16 <<< (8 : Nat)))

/-- The check of a frame over its length, kind and payload (R147): initial value FFFF hex, no final XOR. -/
def frameCheck (bytes : List Byte) : Word := bytes.foldl crcByte 0xffff

/-- The bytes a frame's check is computed over: the length byte and the body. -/
def checkedBytes (f : Frame) : List Byte := BitVec.ofNat 8 (f.payload.length + 1) :: f.kind :: f.payload

/-- A frame as it stands on the line (R147): lead byte, length, kind, payload, check. -/
def lineBytes (f : Frame) : List Byte := 0xC5 :: checkedBytes f ++ b16 (frameCheck (checkedBytes f))

/-- The levels a frame sent puts on a line, its bytes one after another (R144, R147). -/
def frameBits (parity : Parity) (stopBits : Nat) (f : Frame) : List Bool :=
  (lineBytes f).flatMap (byteBits parity stopBits)

/-- The level at a bit place of the levels of a frame; past them the line is idle, high. -/
def levelAt (bits : List Bool) (place : Nat) : Bool := bits.getD place true

end Sys2Proof.Machine
end

