-- ==== Sys2Proof/Machine/Ops.lean ====
section
/-! DEFINITION. The shared operations: named updates of State, time, the transmit queues (R152), replies and
refusals (R156), the hand-over tests (R151), and the marking of panel items (R133). The block has no exception
entry and no addressed memory. -/

namespace Sys2Proof.Machine

/-! ## Vectors -/

/-- A function applied to every element of a register file. -/
def mapVec {α β : Type} {n : Nat} (f : α → β) (v : Vector α n) : Vector β n :=
  ⟨(v.toList.map f).toArray, by simp⟩

/-- One element of a register file changed. -/
def modVec {α : Type} {n : Nat} (v : Vector α n) (i : Fin n) (f : α → α) : Vector α n := v.set i (f v[i])

/-- Every index of a register file, in ascending order. -/
def indices (n : Nat) : List (Fin n) := List.finRange n

/-! ## Named updates -/

namespace State

def setPort (s : State) : Link → Port → State
  | .lp0, p => { s with lp0 := p }
  | .lp1, p => { s with lp1 := p }
def setTable (s : State) (t : Vector Slot 64) : State := { s with table := t }
def setSlot (s : State) (i : Fin 64) (x : Slot) : State := { s with table := s.table.set i x }
def setBand (s : State) (b : BandState) : State := { s with band := b }
def setAspects (s : State) (m : List AspectEntry) : State := { s with aspects := m }
def setChangeover (s : State) (c : Changeover) : State := { s with changeover := c }
def setSpeed (s : State) (u : SpeedUnit) : State := { s with speed := u }
def setFaults (s : State) (f : FaultList) : State := { s with faults := f }
def setLamps (s : State) (l : LampField) : State := { s with lamps := l }
def setMeter (s : State) (m : Meter) : State := { s with meter := m }
def setChime (s : State) (c : Chime) : State := { s with chime := c }
def setPanel (s : State) (p : Panel) : State := { s with panel := p }
def setKeys (s : State) (k : KeyScanner) : State := { s with keys := k }
def setPhase (s : State) (ph : Phase) : State := { s with phase := ph }
def setSupply (s : State) (u : Supply) : State := { s with supply := u }
def setGeneral (s : State) (g : General) : State := { s with general := g }
def setSleep (s : State) (c : SleepControl) : State := { s with sleep := c }

/-- A port of the part. -/
def port (s : State) : Link → Port
  | .lp0 => s.lp0
  | .lp1 => s.lp1

/-- The wheel channel of a name. -/
def wheel (s : State) : WheelId → Wheel
  | .a => s.speed.wheelA
  | .b => s.speed.wheelB

/-- A generator by name. -/
def generator (s : State) : Generator → CadenceGenerator
  | .slow => s.lamps.slowGenerator
  | .fast => s.lamps.fastGenerator

/-- The part is held in reset while either condition lasts (R168). -/
def inReset (s : State) : Bool := s.resets.lineAsserted || s.resets.supplyLow

end State

/-! ## Time (section 4.2 of the introduction) -/

/-- Microseconds in a whole turn of the time counter. -/
def clockPeriod : Nat := 4294967296000

/-- Now: the present value of the time counter. -/
def State.now (s : State) : Time := BitVec.ofNat 32 (s.clock / 1000)

/-- The difference of one time from another, modulo 2^32 ms. -/
def timeSince (t u : Time) : Nat := (t - u).toNat

/-- One time is later than another when its difference from the other lies in 1 to 2147483647. -/
def later (t u : Time) : Bool := within 1 2147483647 (timeSince t u)

/-- The time counter has reached a time: the time is not later than now. -/
def State.reached (s : State) (t : Time) : Bool := !later t s.now

/-- A time some milliseconds on. -/
def plusMs (t : Time) (ms : Nat) : Time := t + BitVec.ofNat 32 ms

/-- Now plus a deadline code's time (section 4.5). -/
def State.deadlineFrom (s : State) (code : Nat) : Time := plusMs s.now (deadlineMs code)

/-- Microseconds passed since a moment. -/
def State.elapsed (s : State) (from' : Nat) : Nat := (s.clock + clockPeriod - from') % clockPeriod

/-- A moment some microseconds after another. -/
def plusUs (moment us : Nat) : Nat := (moment + us) % clockPeriod

/-- A moment of the microsecond clock has been reached. -/
def State.due (s : State) (moment : Nat) : Bool := s.elapsed moment < clockPeriod / 2

/-- An absent timer is not due. -/
def State.dueAt (s : State) : Option Nat → Bool
  | some moment => s.due moment
  | none => false

/-! ## Panel marks (R133) -/

/-- Mark a panel item dirty. -/
def markItem (n : Nat) (s : State) : State := s.setPanel { s.panel with dirty := withBit s.panel.dirty n true }

/-- Mark the status item. -/
def markStatus (s : State) : State := markItem 0 s

/-- Mark the four fault lines. -/
def markLines (s : State) : State := markItem 17 (markItem 18 (markItem 19 (markItem 20 s)))

/-- Add all 21 items. -/
def markAll (s : State) : State := s.setPanel { s.panel with dirty := 0x1fffff }

/-! ## The transmit queues (section 8.5) -/

/-- The reply kinds are 40 to 46 hex (R155). -/
def Frame.isReply (f : Frame) : Bool := within 0x40 0x46 f.kind.toNat

/-- A link on which frames are queued: LP0, and LP1 while enabled (R145). -/
def State.linkEnabled (s : State) : Link → Bool
  | .lp0 => true
  | .lp1 => s.lp1.settings.enabled

/-- A queue without its newest report that is not in transmission, when it holds one (R152). The head is in
transmission. -/
def dropNewestReport : List Frame → Option (List Frame)
  | [] => none
  | head :: tail =>
    if tail.any (fun f => !f.isReply) then some (head :: (tail.reverse.eraseP (fun f => !f.isReply)).reverse) else none

/-- The port after a frame is queued on it at a moment (R152). -/
def Port.enqueue (p : Port) (clock : Nat) (f : Frame) : Port :=
  if p.queue.length < Config.queueCapacity then
    { p with queue := p.queue ++ [f], txStart := if p.queue.isEmpty then clock else p.txStart }
  else if f.isReply then
    match dropNewestReport p.queue with
    | some shorter => { p with queue := shorter ++ [f], reportLost := saturate 65535 p.reportLost }
    | none => { p with replyLost := saturate 65535 p.replyLost }
  else { p with reportLost := saturate 65535 p.reportLost }

/-- Queue a frame on a link; nothing is queued on a disabled LP1 (R145). -/
def queueFrame (l : Link) (f : Frame) (s : State) : State :=
  if s.linkEnabled l then s.setPort l ((s.port l).enqueue s.clock f) else s

/-- Queue a report on LP0 (section 8.5). -/
def report (f : Frame) (s : State) : State := queueFrame .lp0 f s

/-- ACCEPT, whose payload is the kind of the order accepted (R156). -/
def acceptFrame (k : OrderKind) : Frame := ⟨0x40, [k.code]⟩

/-- REFUSE with its reason, item index and two detail bytes (R156). -/
def refuseFrame (kind : Byte) (r : Reason) (item check object : Nat) : Frame :=
  ⟨0x41, kind :: b8 r.code ++ b8 item ++ b8 check ++ b8 object⟩

/-- Answer an order with ACCEPT on its arrival link. -/
def accept (k : OrderKind) (l : Link) (s : State) : State := queueFrame l (acceptFrame k) s

/-- Answer an order with REFUSE on its arrival link, detail 0. -/
def refuse (k : OrderKind) (l : Link) (r : Reason) (item : Nat) (s : State) : State :=
  queueFrame l (refuseFrame k.code r item 0 0) s

/-! ## Reception of orders -/

/-- A link's bytes and frames are taken: not in reset, not in DORMANT (R155), not while the SLEEP reply waits
(R166), not on a disabled link (R145), not during a break (R149). -/
def State.listening (s : State) (l : Link) : Bool :=
  !s.inReset && s.phase != .dormant && !s.sleep.waiting && s.linkEnabled l && !(s.port l).lineLow

/-- An order that has passed the UNKNOWN KIND test: the other tests of the hand-over, then its owning block (R151). -/
def handTo (k : OrderKind) (l : Link) (p : List Byte) (owner : State → State) (s : State) : State :=
  match k.handOverRefusal l p s.phase with
  | some r => refuse k l r 0 s
  | none => owner s

/-- A frame has ended in high stop bits: a low period that woke the part is over (R167; log 23). -/
def frameHeard (l : Link) (s : State) : State := s.setPort l { s.port l with wokeAt := none }

/-- A valid frame of an order kind arrives: when the link is not listening nothing is received. -/
def takeOrder (k : OrderKind) (l : Link) (p : List Byte) (owner : State → State) (s : State) : State :=
  if s.listening l then handTo k l p owner (frameHeard l s) else s

/-- The field checks of an owning block: REFUSE at the first that fails, else the order's effect. -/
def checked (k : OrderKind) (l : Link) (checks : List Check) (effect : State → State) (s : State) : State :=
  match firstFailure checks with
  | some (r, item) => refuse k l r item s
  | none => effect s

/-! ## Lamp pairs and positions (R4, R104) -/

/-- The mode of the pair a channel belongs to. -/
def State.modeOf (s : State) (channel : Nat) : PairMode :=
  if h : channel / 2 < 12 then s.lamps.pairs[channel / 2].mode else .single

/-- A position in a BICOLOUR pair. -/
def State.isBicolour (s : State) (position : Nat) : Bool := s.modeOf position == .bicolour

/-- The channels a position stands for (R4). -/
def State.channelsOf (s : State) (position : Nat) : List Nat :=
  if s.isBicolour position then [2 * (position / 2), 2 * (position / 2) + 1] else [position]

/-- The upper channel of a BICOLOUR pair is not a position (section 5.1). -/
def State.isUpperOfBicolour (s : State) (position : Nat) : Bool := s.isBicolour position && position % 2 == 1

/-- The lamp positions a slot is bound to (section 1.1). -/
def Slot.positions (x : Slot) : List Nat :=
  match x.definition with
  | some d =>
    match d.body with
    | .aspect _ group _ _ => group
    | .state _ position => [position]
    | .number .. => []
  | none => []

/-- The slot is a defined ASPECT slot. -/
def Slot.isAspect (x : Slot) : Bool :=
  match x.definition with
  | some d => match d.body with | .aspect .. => true | _ => false
  | none => false

/-- The slot is a defined NUMBER slot. -/
def Slot.isNumber (x : Slot) : Bool :=
  match x.definition with
  | some d => match d.body with | .number .. => true | _ => false
  | none => false

/-- The slot has a deadline: it is defined with a code other than 16 (section 4.5). -/
def Slot.hasDeadline (x : Slot) : Bool :=
  match x.definition with
  | some d => d.deadline < 16
  | none => false

/-- A slot's monitor armed at now plus its deadline, or STOPPED without one (R13). -/
def State.armedMonitor (s : State) (x : Slot) : Monitor :=
  match x.definition with
  | some d => if d.deadline < 16 then .armed (s.deadlineFrom d.deadline) else .stopped
  | none => .stopped

/-- The phase is RUNNING. -/
def State.running (s : State) : Bool := s.phase == .running

/-- The output state is LIT. -/
def State.lit (s : State) : Bool := s.lamps.output == .lit

end Sys2Proof.Machine
end

