-- ==== Sys2Proof/Machine/Desk.lean ====
section
/-! DEFINITION. The chime generator and the meter driver (chapter 6): requests, withdrawal, slewing, and what each does
when the output state leaves or enters LIT. -/

namespace Sys2Proof.Machine

/-! ## The chime generator (section 6.2) -/

/-- A pattern begins to sound now, with a burst. -/
def sound (p : ChimePattern) (s : State) : State :=
  s.setChime { s.chime with sounding := some (p, s.clock), succeeded := false }

/-- A sounding pattern has stopped: a pending request begins at once, else the output is off (R129). -/
def soundPending (s : State) : State :=
  match s.chime.pending with
  | .none => s.setChime { s.chime with sounding := none, succeeded := false }
  | p => s.setChime { s.chime with sounding := some (p, s.clock), pending := .none, succeeded := false }

/-- A SINGLE or TRIPLE pattern ends (R129); the pending request that succeeds it is marked (R130). -/
def endPattern (s : State) : State :=
  let ended := soundPending s
  ended.setChime { ended.chime with succeeded := s.chime.pending != .none }

/-- The length of a one-shot pattern in microseconds (R127). -/
def patternLength : ChimePattern → Nat
  | .single => 200000
  | .triple => 750000
  | .none | .continuous => 0

/-- The sounding SINGLE or TRIPLE has reached its end. -/
def State.chimePatternOver (s : State) : Bool :=
  match s.chime.sounding with
  | some (.single, start) => patternLength .single ≤ s.elapsed start
  | some (.triple, start) => patternLength .triple ≤ s.elapsed start
  | _ => false

/-- CHIME_PATTERN_END: a SINGLE or TRIPLE pattern that has reached its end gives way (R129). -/
def effectChimePatternEnd (s : State) : State := if s.chimePatternOver then endPattern s else s

/-- A request competes for pending (R128): it takes the place of a lower pending request and is discarded against an
equal or higher one. -/
def compete (p : ChimePattern) (s : State) : State :=
  if s.chime.pending.code < p.code then s.setChime { s.chime with pending := p } else s

/-- A pattern has just succeeded an ended one of this very moment: a request equal to it came together with that end and
is lost (R130, row 1). -/
def State.justSucceededBy (s : State) (p : ChimePattern) : Bool :=
  s.chime.succeeded && s.chime.sounding == some (p, s.clock)

/-- A SINGLE or TRIPLE request in LIT, by what is sounding and what is pending (the table of R128). -/
def takeOneShot (p : ChimePattern) (s : State) : State :=
  match s.chime.sounding with
  | none => sound p s
  | some (q, _) =>
    if q.code < p.code then sound p s
    else if s.justSucceededBy p then s
    else compete p s

/-- A SINGLE or TRIPLE request; discarded while the output state is other than LIT (R128, R131). One that comes together
with the end of the sounding pattern is taken after that end, so that both orders sound the same (R130, row 1). -/
def requestOneShot (p : ChimePattern) (s : State) : State :=
  if s.lit then takeOneShot p (effectChimePatternEnd s) else s

/-- A CONTINUOUS request (R128). -/
def requestContinuous (s : State) : State :=
  if s.chime.continuousHeld then s
  else
    let held := s.setChime { s.chime with continuousHeld := true }
    if s.lit then sound .continuous held else held

/-- The request for a pattern, as an entry of the fault list makes it (R96): NONE sends nothing, and CONTINUOUS goes by
the demand of R97. -/
def requestEntryChime (p : ChimePattern) (s : State) : State :=
  match p with
  | .single => requestOneShot .single s
  | .triple => requestOneShot .triple s
  | .none | .continuous => s

/-- The CONTINUOUS request is withdrawn (R129). -/
def withdrawContinuous (s : State) : State :=
  if s.chime.continuousHeld then
    let freed := s.setChime { s.chime with continuousHeld := false }
    match s.chime.sounding with
    | some (.continuous, _) => soundPending freed
    | _ => freed
  else s

/-- The chime as the output state leaves LIT (R131). -/
def chimeLeavesLit (s : State) : State := s.setChime { s.chime with sounding := none, pending := .none, succeeded := false }

/-- The chime as the output state returns to LIT (R131). -/
def chimeEntersLit (s : State) : State := if s.chime.continuousHeld then sound .continuous s else s

/-- The chime output is on: the sounding pattern is in a burst (R127). -/
def State.chimeOn (s : State) : Bool :=
  match s.chime.sounding with
  | some (.single, start) => s.elapsed start < 200000
  | some (.triple, start) => s.elapsed start < 750000 && s.elapsed start % 300000 < 150000
  | some (.continuous, start) => s.elapsed start % 1000000 < 500000
  | _ => false

/-! ## The meter driver (section 6.1) -/

/-- Units of the duty in one per mille. -/
def dutyUnit : Nat := 12000

/-- The target: 1000 while the test flag is set, the speed target otherwise. -/
def Meter.target (m : Meter) : Nat := if m.testFlag then 1000 else m.speedTarget

/-- The target has been formed anew: in LIT the movement is redirected at once from the present duty (R125); outside LIT
the duty stays 0 (R126). -/
def redirectMeter (s : State) : State :=
  if s.lit then s.setMeter { s.meter with moving := s.meter.duty != dutyUnit * s.meter.target }
  else s.setMeter { s.meter with duty := 0, moving := false }

/-- The speed target of a displayed speed: rounded to the nearest per mille, halves up, held at 1000 (R124). -/
def speedTargetOf (speed fullScale : Nat) : Nat := min 1000 ((2 * speed * 1000 + fullScale) / (2 * fullScale))

/-- The Indication Table presents slot 0 to the meter driver (R22, R124). -/
def presentToMeter (speed : Option Nat) (s : State) : State :=
  let target := match speed with
    | some v => speedTargetOf v s.general.fullScale
    | none => 0
  redirectMeter (s.setMeter { s.meter with speedTarget := target })

/-- The lamp field tells the meter driver that a test has started or ended (R125). -/
def setMeterTest (inProgress : Bool) (s : State) : State :=
  redirectMeter (s.setMeter { s.meter with testFlag := inProgress })

/-- The duty after one microsecond of slewing (R125). -/
def slewed (duty target slewTime : Nat) : Nat :=
  let stepSize := 12 / slewTime
  if duty < target then min target (duty + stepSize) else max target (duty - stepSize)

/-- The meter in one microsecond: it moves while it slews, in LIT only (R125, R126). -/
def tickMeter (s : State) : State :=
  if s.lit && s.meter.moving then
    s.setMeter { s.meter with duty := slewed s.meter.duty (dutyUnit * s.meter.target) s.general.slewTime }
  else s

/-- The slewing duty has reached its target. -/
def State.meterArrived (s : State) : Bool := s.meter.moving && s.meter.duty == dutyUnit * s.meter.target

/-- The duty stops at its target (R125). -/
def effectMeterTargetReached (s : State) : State :=
  if s.meterArrived then s.setMeter { s.meter with moving := false } else s

end Sys2Proof.Machine
end

