-- ==== Sys2Proof/Machine/FaultList.lean ====
section
/-! DEFINITION. The fault message list (chapter 4): catalogue, raise, clear, acknowledgement, visibility, the continuous
demand, the page cursor and the panel marks of each event of the list. -/

namespace Sys2Proof.Machine

/-! ## The catalogue (section 4.1) -/

/-- The built-in defaults of the internal codes: visible under every word, text index equal to the code (R78). -/
def builtInTreatment (code : Nat) : Option Treatment :=
  let make (cls : FaultClass) (chime : ChimePattern) : Option Treatment := some ⟨cls, 0, 0, chime, code⟩
  match code with
  | 1000 | 1003 | 1004 => make .a .continuous
  | 1001 | 1005 | 1006 | 1008 | 1009 => make .b .single
  | 1002 | 1007 | 1010 => make .c .none
  | _ => none

/-- The generic default (R78). -/
def genericTreatment : Treatment := ⟨.c, 0, 0, .none, 0⟩

/-- A catalogue entry covers a code: the codes agree in all bits above the lowest `width` (section 4.1). -/
def CatalogueEntry.covers (e : CatalogueEntry) (code : Nat) : Bool := code / 2 ^ e.width == e.base / 2 ^ e.width

/-- The entry of smallest width that covers a code; width 0 is the exact entry (R78, steps 1 and 2). -/
def smallestCovering (code : Nat) : List CatalogueEntry → Option CatalogueEntry
  | [] => none
  | e :: rest =>
    match smallestCovering code rest with
    | some best => if e.covers code && e.width < best.width then some e else some best
    | none => if e.covers code then some e else none

/-- The treatment of a fault code (R78). -/
def treatmentOf (catalogue : List CatalogueEntry) (code : Nat) : Treatment :=
  match smallestCovering code catalogue with
  | some e => e.treatment
  | none => (builtInTreatment code).getD genericTreatment

/-! ## Entries -/

/-- The entry has a code and origin. -/
def Entry.named (code origin : Nat) (e : Entry) : Bool := e.code == code && e.origin == origin

/-- ACTIVE-UNACKED or CLEARED-UNACKED (section 4.3). -/
def Entry.unacknowledged (e : Entry) : Bool := e.state != .activeAcked

/-- The entry held for a code and origin. -/
def findEntry (code origin : Nat) (entries : List Entry) : Option Entry := entries.find? (Entry.named code origin)

/-- The list with an entry replaced. -/
def replaceEntry (new : Entry) (entries : List Entry) : List Entry :=
  entries.map (fun e => if e.named new.code new.origin then new else e)

/-- The list without an entry. -/
def withoutEntry (gone : Entry) (entries : List Entry) : List Entry := entries.eraseP (Entry.named gone.code gone.origin)

/-- The list with a new entry placed first among the entries of its class (R81). -/
def insertEntry (new : Entry) : List Entry → List Entry
  | [] => [new]
  | e :: rest =>
    if e.treatment.cls.code < new.treatment.cls.code then e :: insertEntry new rest else new :: e :: rest

/-- The least serious class present, as its code (R85). -/
def lowestClass (entries : List Entry) : Nat := entries.foldl (fun c e => max c e.treatment.cls.code) 0

/-- The oldest of the entries that meet a condition: the last in list order (R81). -/
def oldest (p : Entry → Bool) (entries : List Entry) : Option Entry := entries.reverse.find? p

/-- The entry a new fault of a class evicts from a full list, when there is one (R85). -/
def evictionFor (cls : FaultClass) (entries : List Entry) : Option Entry :=
  let low := lowestClass entries
  if cls.code < low then
    match oldest (fun e => e.treatment.cls.code == low && e.state == .clearedUnacked) entries with
    | some e => some e
    | none => oldest (fun e => e.treatment.cls.code == low) entries
  else none

/-! ## Reports (R101, R159) -/

/-- Who brought about a change of an entry, in the order of R159's codes. -/
inductive Agent where
  | lp0Order | lp1Order | ackKey | part
deriving DecidableEq, Repr

def Agent.code : Agent → Nat | .lp0Order => 0 | .lp1Order => 1 | .ackKey => 2 | .part => 3

/-- The agent of an order. -/
def Agent.ofLink : Link → Agent | .lp0 => .lp0Order | .lp1 => .lp1Order

/-- The events of FAULT REPORT, in the order of R159's codes. -/
inductive FaultEvent where
  | entered | reraised | acknowledged | cleared | removed | evicted | dropped
deriving DecidableEq, Repr

def FaultEvent.code : FaultEvent → Nat
  | .entered => 0 | .reraised => 1 | .acknowledged => 2 | .cleared => 3 | .removed => 4 | .evicted => 5 | .dropped => 6

/-- A time divided by 256, in three bytes (R159). -/
def time24 (t : Time) : List Byte := [t.extractLsb' 24 8, t.extractLsb' 16 8, t.extractLsb' 8 8]

/-- The fault entry record, 15 bytes (R159). -/
def entryRecord (e : Entry) : List Byte :=
  let bits := e.treatment.cls.code * 64 + e.state.code * 16 + e.treatment.chime.code * 4
    + (if e.visible then 2 else 0) + (if e.parameter.isSome then 1 else 0)
  n16 e.code ++ b8 e.origin ++ b8 bits ++ n16 e.treatment.text ++ b8 e.occurrences ++ time24 e.firstRaised
    ++ time24 e.lastChange ++ b16 (e.parameter.getD 0)

/-- FAULT REPORT with the number of entries held and the dropped count as they stand (R159). -/
def faultReport (event : FaultEvent) (agent : Agent) (e : Entry) (s : State) : State :=
  report ⟨0x53, b8 event.code ++ b8 agent.code ++ entryRecord e ++ b8 s.faults.entries.length
    ++ n16 s.faults.dropped⟩ s

/-! ## Pages (section 4.10) -/

/-- The visible entries in list order. -/
def FaultList.visibleEntries (f : FaultList) : List Entry := f.entries.filter (fun e => e.visible)

/-- The number of pages: visible entries divided by 4, rounded up (R98). -/
def FaultList.pages (f : FaultList) : Nat := (f.visibleEntries.length + 3) / 4

/-- The entry shown on fault line i, or none for an empty line (R98). -/
def FaultList.line (f : FaultList) (i : Nat) : Option Entry := f.visibleEntries[4 * f.cursor + i]?

/-- What a fault line shows of an entry (R98). -/
structure LineContent where
  cls : FaultClass
  state : EntryState
  code : Nat
  origin : Nat
  text : Nat
  occurrences : Nat
  parameter : Option Word
deriving DecidableEq, Repr

/-- The content of the four fault lines. -/
def FaultList.lines (f : FaultList) : List (Option LineContent) :=
  (List.range 4).map (fun i => (f.line i).map (fun e =>
    ⟨e.treatment.cls, e.state, e.code, e.origin, e.treatment.text, e.occurrences, e.parameter⟩))

/-- The cursor held to max(pages - 1, 0) (R98). -/
def FaultList.clamped (f : FaultList) : FaultList := { f with cursor := min f.cursor (f.pages - 1) }

/-- The panel marks of an event of the list, from the list before and after it (R100). -/
def markListChanges (before : FaultList) (s : State) : State :=
  let lined := if s.faults.lines = before.lines then s else markLines s
  if s.faults.cursor = before.cursor ∧ s.faults.pages = before.pages ∧ s.faults.moreFaults = before.moreFaults
  then lined else markStatus lined

/-- An entry that makes the continuous demand come in force (R97). -/
def Entry.demands (e : Entry) : Bool := e.treatment.chime == .continuous && e.visible && e.unacknowledged

/-- The continuous demand is re-evaluated, and CONTINUOUS requested or withdrawn on a change (R97). -/
def evaluateDemand (s : State) : State :=
  let now := s.faults.entries.any Entry.demands
  if now = s.faults.demand then s
  else
    let held := s.setFaults { s.faults with demand := now }
    if now then requestContinuous held else withdrawContinuous held

/-- One event of the list: its change, then once the demand, the cursor clamp and the panel marks (R97, R98, R100). -/
def listEvent (change : State → State) (s : State) : State :=
  let demanded := evaluateDemand (change s)
  markListChanges s.faults (demanded.setFaults demanded.faults.clamped)

/-! ## Raising (section 4.4) -/

/-- The chime request and cursor setting of an entry that has just become visible and ACTIVE-UNACKED (R83, R84,
R96, R99). -/
def announce (e : Entry) (s : State) : State :=
  if e.visible && e.state == .activeUnacked then
    let chimed := requestEntryChime e.treatment.chime s
    if e.treatment.cls = .a then chimed.setFaults { chimed.faults with cursor := 0 } else chimed
  else s

/-- A re-raise of a held entry (R83). -/
def reraise (agent : Agent) (e : Entry) (parameter : Option Word) (s : State) : State :=
  let new := { e with
    occurrences := saturate 255 e.occurrences
    lastChange := s.now
    parameter := parameter.or e.parameter
    state := if e.state = .clearedUnacked then .activeUnacked else e.state }
  let held := s.setFaults { s.faults with entries := replaceEntry new s.faults.entries }
  let reported := faultReport .reraised agent new held
  if e.state = .clearedUnacked then announce new reported else reported

/-- The entry a raise creates, or would have created (R84, R86). -/
def newEntry (code origin : Nat) (parameter : Option Word) (s : State) : Entry :=
  let treatment := treatmentOf s.faults.catalogue code
  { code, origin, treatment
    state := if treatment.cls = .c then .activeAcked else .activeUnacked
    occurrences := 1, firstRaised := s.now, lastChange := s.now, parameter
    visible := visibleUnder s.faults.conditions treatment.mask treatment.mtch }

/-- A new entry takes its place (R84). -/
def enter (agent : Agent) (e : Entry) (s : State) : State :=
  let held := s.setFaults { s.faults with entries := insertEntry e s.faults.entries }
  announce e (faultReport .entered agent e held)

/-- An entry is evicted (R85). -/
def evict (e : Entry) (s : State) : State :=
  faultReport .evicted .part e (s.setFaults { s.faults with entries := withoutEntry e s.faults.entries })

/-- What becomes of a raise (R83 to R86). -/
inductive RaiseOutcome where
  | reraised (e : Entry)
  | created
  | evicting (e : Entry)
  | dropped
deriving DecidableEq, Repr

/-- The outcome of a raise at the list as it stands. -/
def raiseOutcome (code origin : Nat) (f : FaultList) : RaiseOutcome :=
  match findEntry code origin f.entries with
  | some e => .reraised e
  | none =>
    if f.entries.length < Config.listCapacity then .created
    else
      match evictionFor (treatmentOf f.catalogue code).cls f.entries with
      | some e => .evicting e
      | none => .dropped

/-- A dropped raise: counted and marked (R86). -/
def dropRaise (s : State) : State :=
  s.setFaults { s.faults with dropped := saturate 65535 s.faults.dropped, moreFaults := true }

/-- A raise is taken (R83 to R86). An internal raise that is dropped is reported; a host's is answered (R86). -/
def takeRaise (agent : Agent) (code origin : Nat) (parameter : Option Word) (s : State) : State :=
  let new := newEntry code origin parameter s
  listEvent (fun s =>
    match raiseOutcome code origin s.faults with
    | .reraised e => reraise agent e parameter s
    | .created => enter agent new s
    | .evicting e => enter agent new (evict e s)
    | .dropped => if agent = .part then faultReport .dropped .part new (dropRaise s) else dropRaise s) s

/-- An internal raise: taken in RUNNING, discarded otherwise (R87). -/
def internalRaise (code origin : Nat) (parameter : Option Word) (s : State) : State :=
  if s.running then takeRaise .part code origin parameter s else s

/-! ## Clearing and acknowledging (sections 4.5 to 4.7) -/

/-- An entry is removed by a clear or an acknowledgement (R94). -/
def removeEntry (agent : Agent) (e : Entry) (s : State) : State :=
  let reported := faultReport .removed agent e
    (s.setFaults { s.faults with entries := withoutEntry e s.faults.entries })
  reported.setFaults { reported.faults with moreFaults := false }

/-- The change of state of an entry, with its report (R88, R91). -/
def changeEntryState (event : FaultEvent) (agent : Agent) (e : Entry) (state : EntryState) (s : State) : State :=
  let new := { e with state, lastChange := s.now }
  faultReport event agent new (s.setFaults { s.faults with entries := replaceEntry new s.faults.entries })

/-- One entry is cleared, by its state (R88). -/
def clearEntry (agent : Agent) (s : State) (e : Entry) : State :=
  match e.state with
  | .activeUnacked => changeEntryState .cleared agent e .clearedUnacked s
  | .activeAcked => removeEntry agent e s
  | .clearedUnacked => s

/-- One entry is acknowledged, by its state (R91). -/
def acknowledgeEntry (agent : Agent) (s : State) (e : Entry) : State :=
  match e.state with
  | .activeUnacked => changeEntryState .acknowledged agent e .activeAcked s
  | .clearedUnacked => removeEntry agent e s
  | .activeAcked => s

/-- Entries are cleared one after another in list order, as one event (R89). -/
def clearEntries (agent : Agent) (chosen : List Entry) (s : State) : State :=
  listEvent (fun s => chosen.foldl (clearEntry agent) s) s

/-- Entries are acknowledged one after another in list order, as one event (R91, R92). -/
def acknowledgeEntries (agent : Agent) (chosen : List Entry) (s : State) : State :=
  listEvent (fun s => chosen.foldl (acknowledgeEntry agent) s) s

/-- An internal clear: taken in RUNNING, without effect when no such entry is held (R87, R90). -/
def internalClear (code origin : Nat) (s : State) : State :=
  if s.running then
    match findEntry code origin s.faults.entries with
    | some e => clearEntries .part [e] s
    | none => s
  else s

/-! ## The condition word (R79, R80) -/

/-- An entry with its visibility decided by a word. -/
def Entry.seenUnder (conditions : Word) (e : Entry) : Entry :=
  { e with visible := visibleUnder conditions e.treatment.mask e.treatment.mtch }

/-- What an entry does that has just become visible by a change of the word (R80). -/
def appear (s : State) (e : Entry) : State :=
  let chimed := if e.unacknowledged then requestEntryChime e.treatment.chime s else s
  if e.treatment.cls = .a ∧ e.state = .activeUnacked then chimed.setFaults { chimed.faults with cursor := 0 } else chimed

/-- Every entry's visibility is decided again (R80). -/
def reevaluate (s : State) : State :=
  let appearing := (s.faults.entries.filter (fun e => !e.visible)).map (Entry.seenUnder s.faults.conditions)
    |>.filter (fun e => e.visible)
  let seen := s.setFaults { s.faults with entries := s.faults.entries.map (Entry.seenUnder s.faults.conditions) }
  appearing.foldl appear seen

/-- The condition word takes a new value; a change re-evaluates visibility as one event (R79, R80). -/
def setConditions (conditions : Word) (s : State) : State :=
  if conditions = s.faults.conditions then s
  else listEvent (fun s => reevaluate (s.setFaults { s.faults with conditions })) s

/-- An owner hands over its flag; only a change has an effect (R79). -/
def handFlag (bit : Nat) (value : Bool) (s : State) : State :=
  setConditions (withBit s.faults.conditions bit value) s

/-- A flag of the condition word. -/
def State.condition (s : State) (bit : Nat) : Bool := s.faults.conditions.getLsbD bit

/-! ## Page keys (R99) -/

/-- PAGE DOWN. -/
def pageDown (s : State) : State :=
  listEvent (fun s =>
    if s.faults.cursor + 1 < s.faults.pages then s.setFaults { s.faults with cursor := s.faults.cursor + 1 } else s) s

/-- PAGE UP. -/
def pageUp (s : State) : State :=
  listEvent (fun s => s.setFaults { s.faults with cursor := s.faults.cursor - 1 }) s

/-- The ACK key acknowledges the first visible unacknowledged entry (R93). -/
def acknowledgeFirst (s : State) : State :=
  match s.faults.entries.find? (fun e => e.visible && e.unacknowledged) with
  | some e => acknowledgeEntries .ackKey [e] s
  | none => s

/-! ## Emptying (R94, R100, R103) -/

/-- The list emptied by a phase event: no report, no chime request; the demand is withdrawn, the cursor and the marker
return to 0 and clear, the fault lines and the status item are marked. -/
def emptyList (s : State) : State :=
  let emptied := withdrawContinuous
    (s.setFaults { s.faults with entries := [], cursor := 0, moreFaults := false, demand := false })
  markStatus (markLines emptied)

/-! ## Orders of the fault list -/

/-- The catalogue without a key. -/
def withoutKey (base width : Nat) (catalogue : List CatalogueEntry) : List CatalogueEntry :=
  catalogue.eraseP (fun e => e.base == base && e.width == width)

/-- The key is held. -/
def holdsKey (base width : Nat) (catalogue : List CatalogueEntry) : Bool :=
  catalogue.any (fun e => e.base == base && e.width == width)

/-- The base code with its low bits 0, as it is stored (section 4.1). -/
def alignedBase (code width : Nat) : Nat := code / 2 ^ width * 2 ^ width

/-- The checks of DEFINE FAULT (R76). -/
def defineFaultChecks (p : List Byte) : List Check :=
  let code := nat16At p 0
  let width := natAt p 2
  let key : List Check :=
    [field 1 (code ≤ 1023 && !(width == 0 && within 1011 1023 code)),
     field 2 (width ≤ 7 && !(1 ≤ width && 1011 ≤ alignedBase code width + 2 ^ width - 1)),
     field 3 (isFlag (natAt p 3))]
  if natAt p 3 = 1 then key
  else key ++
    [field 4 (natAt p 4 ≤ 2),
     field 6 ((wordAt p 7 &&& ~~~(wordAt p 5)) == 0),
     field 7 (natAt p 9 ≤ 3 && !(natAt p 4 == 2 && natAt p 9 != 0)),
     field 8 (nat16At p 10 ≤ 4095)]

/-- The treatment a DEFINE FAULT carries. -/
def treatmentIn (p : List Byte) : Treatment :=
  ⟨faultClassOf (natAt p 4), wordAt p 5, wordAt p 7, chimeOf (natAt p 9), nat16At p 10⟩

/-- What a DEFINE FAULT that passes its checks does to the catalogue (R77). -/
def defineFaultEffect (l : Link) (p : List Byte) (s : State) : State :=
  let width := natAt p 2
  let base := alignedBase (nat16At p 0) width
  let held := holdsKey base width s.faults.catalogue
  let store (c : List CatalogueEntry) : State := accept .defineFault l (s.setFaults { s.faults with catalogue := c })
  if natAt p 3 = 1 then
    if held then store (withoutKey base width s.faults.catalogue)
    else refuse .defineFault l .noEntry 2 s
  else if held then
    store (s.faults.catalogue.map (fun e =>
      if e.base = base ∧ e.width = width then { e with treatment := treatmentIn p } else e))
  else if s.faults.catalogue.length < Config.catalogueCapacity then
    store (s.faults.catalogue ++ [⟨base, width, treatmentIn p⟩])
  else refuse .defineFault l .tableFull 2 s

/-- DEFINE FAULT (R76, R77). -/
def ownDefineFault (l : Link) (p : List Byte) (s : State) : State :=
  checked .defineFault l (defineFaultChecks p) (defineFaultEffect l p) s

end Sys2Proof.Machine
end

