-- ==== Sys2Proof/Machine/Panel.lean ====
section
/-! DEFINITION. The panel image and its transmitter (sections 6.3 to 6.5). -/

namespace Sys2Proof.Machine

/-! ## The image (R132) -/

/-- PANEL STATUS, item 0. -/
def panelStatus (s : State) : Frame :=
  ⟨0x60, b8 s.phase.code ++ b8 s.changeover.active ++ flag s.changeover.transit.isSome ++ b8 s.speed.direction.code
    ++ b8 s.lamps.dim.code ++ b8 s.band.code ++ b8 s.lamps.output.code ++ b8 (testCode s.lamps.test)
    ++ flag s.faults.moreFaults ++ b8 s.faults.cursor ++ b8 s.faults.pages⟩

/-- The panel field and decimal places of a NUMBER slot (section 1.1). -/
def Slot.panelField (x : Slot) : Option (Nat × Nat) :=
  match x.definition with
  | some d =>
    match d.body with
    | .number _ (some f) _ places => some (f, places)
    | _ => none
  | none => none

/-- The slot bound to a panel field. -/
def State.slotOfField (s : State) (f : Nat) : Option Slot :=
  s.table.toList.find? (fun x => x.panelField.any (fun b => b.1 == f))

/-- PANEL FIELD, items 1 to 16: VALUE or BLANK as the bound slot presents it in RUNNING, EMPTY otherwise. -/
def panelField (f : Nat) (s : State) : Frame :=
  let empty : Frame := ⟨0x61, b8 f ++ b8 2 ++ n16 0 ++ b8 0⟩
  if s.running then
    match s.slotOfField f with
    | some x =>
      match x.shown with
      | .number (some v) => ⟨0x61, b8 f ++ b8 0 ++ b16 (BitVec.ofInt 16 v) ++ b8 ((x.panelField.map Prod.snd).getD 0)⟩
      | _ => ⟨0x61, b8 f ++ b8 1 ++ n16 0 ++ b8 0⟩
    | none => empty
  else empty

/-- PANEL FAULT LINE, items 17 to 20. -/
def panelLine (i : Nat) (s : State) : Frame :=
  match s.faults.line i with
  | some e => ⟨0x62, b8 i ++ b8 0 ++ entryRecord e⟩
  | none => ⟨0x62, b8 i ++ b8 1 ++ List.replicate 15 0⟩

/-- The record of an item of the panel image. -/
def panelItem (n : Nat) (s : State) : Frame :=
  if n = 0 then panelStatus s else if n ≤ 16 then panelField (n - 1) s else panelLine (n - 17) s

/-! ## The transmitter (R134) -/

/-- An item may be sent in the present phase and output state. -/
def State.sendable (s : State) (n : Nat) : Bool :=
  !s.inReset &&
  match s.phase with
  | .running => n == 0 || s.lit
  | .configuring => n == 0 && !s.sleep.waiting
  | .dormant => false

/-- The lowest-numbered sendable item of the dirty set. -/
def State.nextItem (s : State) : Option Nat := (List.range 21).find? (fun n => s.panel.dirty.getLsbD n && s.sendable n)

/-- When no frame is in transmission and a sendable item is dirty, its frame begins with its content as read now. -/
def kickPanel (s : State) : State :=
  match s.panel.sending, s.nextItem with
  | none, some n =>
    s.setPanel { s.panel with
      dirty := withBit s.panel.dirty n false
      sending := some ⟨panelItem n s, s.clock⟩ }
  | _, _ => s

/-- The line bytes of a frame (R147): body length plus 4. -/
def Frame.size (f : Frame) : Nat := f.payload.length + 5

/-- The panel frame in transmission has taken its time: 10 bit times a byte at 115200 baud (R134). -/
def State.panelFrameOver (s : State) : Bool :=
  match s.panel.sending with
  | some f => f.frame.size * 10 * 1000000 ≤ s.elapsed f.start * 115200
  | none => false

/-- The level of the panel line now (R134): 8 data bits, no parity and one stop bit at 115200 baud, or idle, high. -/
def State.panelLevel (s : State) : Bool :=
  match s.panel.sending with
  | some f => levelAt (frameBits .none 1 f.frame) (s.elapsed f.start * 115200 / 1000000)
  | none => true

/-- A panel record's frame ends, and the transmitter chooses again (R134). -/
def effectPanelFrameEnd (s : State) : State :=
  if s.panelFrameOver then kickPanel (s.setPanel { s.panel with sending := none }) else s

/-- The refresh timer begins a period of 1000 ms (R133). -/
def beginRefresh (s : State) : State := s.setPanel { s.panel with refresh := some (plusUs s.clock 1000000) }

/-- The refresh timer expires: all 21 items, and the next period (R133). -/
def effectPanelRefreshExpiry (s : State) : State :=
  match s.panel.refresh with
  | some moment =>
    if s.due moment then
      let marked := markAll s
      kickPanel (marked.setPanel { marked.panel with refresh := some (plusUs moment 1000000) })
    else s
  | none => s

end Sys2Proof.Machine
end

