-- ==== Sys2Proof/Machine/FaultOrders.lean ====
section
/-! DEFINITION. The orders of the fault list that are accepted in RUNNING, and FAULT DATA (chapter 4). -/

namespace Sys2Proof.Machine

/-- RAISE FAULT (R82): the reply is queued before the reports the raise causes. -/
def ownRaiseFault (l : Link) (p : List Byte) (s : State) : State :=
  let code := nat16At p 0
  let origin := natAt p 2
  let parameter := if p.length = 5 then some (wordAt p 3) else none
  checked .raiseFault l [field 0 (code < 1000), field 1 (origin < 64)]
    (fun s =>
      let answered := match raiseOutcome code origin s.faults with
        | .dropped => refuse .raiseFault l .listFull 0 s
        | .reraised _ | .created | .evicting _ => accept .raiseFault l s
      kickPanel (takeRaise (Agent.ofLink l) code origin parameter answered)) s

/-- The entries a CLEAR FAULT names: one by code and origin (R88), or all of an origin (R89). -/
def entriesToClear (code : Nat) (origin : Nat) (entries : List Entry) : List Entry :=
  if code = 0xffff then entries.filter (fun e => e.origin == origin) else (findEntry code origin entries).toList

/-- CLEAR FAULT (R88, R89). -/
def ownClearFault (l : Link) (p : List Byte) (s : State) : State :=
  let code := nat16At p 0
  let origin := natAt p 2
  checked .clearFault l [field 0 (code < 1000 || code == 0xffff), field 1 (origin < 64)]
    (fun s =>
      match entriesToClear code origin s.faults.entries with
      | [] => refuse .clearFault l .noEntry 0 s
      | chosen => kickPanel (clearEntries (Agent.ofLink l) chosen (accept .clearFault l s))) s

/-- ACKNOWLEDGE FAULT (R92). -/
def ownAcknowledgeFault (l : Link) (p : List Byte) (s : State) : State :=
  let selection := natAt p 0
  checked .acknowledgeFault l [field 0 (selection ≤ 2), field 1 (selection != 0 || nat16At p 1 ≤ 1010)]
    (fun s =>
      let acknowledge (chosen : List Entry) : State :=
        kickPanel (acknowledgeEntries (Agent.ofLink l) chosen (accept .acknowledgeFault l s))
      if selection = 0 then
        match findEntry (nat16At p 1) (natAt p 3) s.faults.entries with
        | some e => acknowledge [e]
        | none => refuse .acknowledgeFault l .noEntry 1 s
      else if selection = 1 then acknowledge (s.faults.entries.filter (fun e => e.visible && e.unacknowledged))
      else acknowledge (s.faults.entries.filter Entry.unacknowledged)) s

/-- SET CONDITIONS (R79). -/
def ownSetConditions (l : Link) (p : List Byte) (s : State) : State :=
  kickPanel (setConditions (withHostFlags s.faults.conditions (wordAt p 0)) (accept .setConditions l s))

/-- FAULT DATA (R102, R159). -/
def faultData (start count : Nat) (f : FaultList) : Frame :=
  ⟨0x44, b8 (f.entries.length + if f.moreFaults then 128 else 0) ++ n16 f.dropped
    ++ ((f.entries.drop start).take count).flatMap entryRecord⟩

/-- QUERY FAULTS (R102). -/
def ownQueryFaults (l : Link) (p : List Byte) (s : State) : State :=
  checked .queryFaults l [field 0 (natAt p 0 ≤ 47), field 1 (within 1 4 (natAt p 1))]
    (fun s => queueFrame l (faultData (natAt p 0) (natAt p 1) s.faults) s) s

end Sys2Proof.Machine
end

