-- ==== Sys2Proof/Machine/Lamps.lean ====
section
/-! DEFINITION. The lamp field (chapter 5): requests and cadences, the driving of channels and bicolour pairs, lamp sense,
degraded aspects, the output state, dim state and lamp test. -/

namespace Sys2Proof.Machine

/-! ## Positions, colours and phases -/

/-- The pair of a channel or position. -/
def pairOf (channel : Fin 24) : Fin 12 := ⟨channel.val / 2, by omega⟩

/-- The position a channel belongs to (section 5.1). -/
def State.positionOf (s : State) (channel : Fin 24) : Fin 24 :=
  if s.isBicolour channel.val then ⟨2 * (channel.val / 2), by omega⟩ else channel

/-- Colour 1 is the lower channel of a BICOLOUR pair, colour 2 the upper. -/
def channelColour (channel : Fin 24) : Colour := if channel.val % 2 = 0 then .one else .two

/-- The other colour. -/
def Colour.other : Colour → Colour | .one => .two | .two => .one

/-- The colour of an active setting, or NONE when it is OFF (R111). -/
def Active.colour : Active → Option Colour
  | .off => none
  | .steady c | .slow c | .fast c | .run c _ _ => some c

/-- The colour of a setting, or NONE when it is OFF. -/
def Setting.colour : Setting → Option Colour
  | .off => none
  | .steady c | .slow c | .fast c | .attention c _ => some c

/-- A position is bound: named by an aspect group, a STATE slot's lamp or the band lamp (R122). -/
def State.isBound (s : State) (position : Nat) : Bool :=
  s.table.toList.any (fun x => x.positions.contains position)
    || s.general.bandLamp.any (fun b => b.1.val == position)

/-- A generator is in the on-phase of its period (R106). -/
def State.onPhase (s : State) (g : Generator) : Bool :=
  match (s.generator g).period with
  | some p => s.elapsed p.start < p.onTime
  | none => false

/-- A lamp test is in progress with the outputs LIT (R122). -/
def State.testing (s : State) : Bool := s.lit && s.lamps.test.isSome

/-- The cadence of an active setting is in its lit phase (R109, point 5). -/
def State.cadenceLit (s : State) : Active → Bool
  | .off => false
  | .steady _ => true
  | .slow _ => s.onPhase .slow
  | .fast _ | .run .. => s.onPhase .fast

/-- The settings of a channel (R104). -/
def State.channelSettings (s : State) (channel : Fin 24) : ChannelSettings :=
  let pair := s.lamps.pairs[pairOf channel]
  if channel.val % 2 = 0 then pair.lower else pair.upper

/-- The brightness for the level in force: day in DAY and during lamp test (R109). -/
def State.brightness (s : State) (channel : Fin 24) : Nat :=
  let c := s.channelSettings channel
  if s.testing || s.lamps.dim == .day then c.day else c.night

/-- The pair of a BICOLOUR channel drives the channel's colour; a SINGLE channel is its own. -/
def State.colourDriven (s : State) (channel : Fin 24) : Bool :=
  !s.isBicolour channel.val || s.lamps.drives[pairOf channel].driven == some (channelColour channel)

/-- A channel is lit (R109). -/
def State.isLit (s : State) (channel : Fin 24) : Bool :=
  s.running && s.lit
    && s.lamps.channels[channel].condition != .shorted
    && s.brightness channel != 0
    && s.colourDriven channel
    && (if s.testing then s.isBound (s.positionOf channel).val
        else s.cadenceLit s.lamps.positions[s.positionOf channel].active)

/-- The level a channel is driven at: its brightness while lit, off otherwise (R109). -/
def State.drive (s : State) (channel : Fin 24) : Nat := if s.isLit channel then s.brightness channel else 0

/-- A channel is steadily lit: by a STEADY active setting or by lamp test (R112). -/
def State.steadilyLit (s : State) (channel : Fin 24) : Bool :=
  s.isLit channel && (s.testing ||
    match s.lamps.positions[s.positionOf channel].active with
    | .steady _ => true
    | _ => false)

/-! ## Settling the drives and schedules (R111, R112) -/

/-- The wanted colour of a BICOLOUR pair (R111). -/
def State.wanted (s : State) (pair : Fin 12) : Option Colour :=
  let position : Fin 24 := ⟨2 * pair.val, by omega⟩
  if !s.lit then none
  else
    match s.lamps.test with
    | some t => if s.isBound position.val then some t.colour else none
    | none => s.lamps.positions[position].active.colour

/-- The drive of a pair brought in line with its wanted colour (the table of R111). -/
def State.settledDrive (s : State) (pair : Fin 12) : Drive :=
  let d := s.lamps.drives[pair]
  if s.lamps.pairs[pair].mode = .single then d
  else
    match d.switching with
    | some _ => d
    | none =>
      match s.wanted pair, d.driven with
      | none, _ => ⟨none, none⟩
      | some c, none => ⟨some c, none⟩
      | some c, some old =>
        if c = old then d
        else if s.lamps.pairs[pair].deadTime = 0 then ⟨some c, none⟩
        else ⟨none, some (plusUs s.clock (s.lamps.pairs[pair].deadTime * 100))⟩

/-- The steady schedule of a channel brought in line with whether it is steadily lit (R112). -/
def State.settledSchedule (s : State) (channel : Fin 24) : Option Nat :=
  if s.steadilyLit channel then
    match s.lamps.channels[channel].steadyAt with
    | some moment => some moment
    | none => some (plusUs s.clock 100000)
  else none

/-- Every drive and every steady schedule brought in line with the state: done at the end of each step that can
change what the lamps show. -/
def settleLamps (s : State) : State :=
  let driven := s.setLamps { s.lamps with drives := Vector.ofFn (fun pair => s.settledDrive pair) }
  driven.setLamps { driven.lamps with
    channels := Vector.ofFn (fun channel =>
      { driven.lamps.channels[channel] with steadyAt := driven.settledSchedule channel }) }

/-- The end of a step that touches lamps or panel, or of one key's sample in a scan: the drives settle, then an idle
panel transmitter chooses (log 25). -/
def conclude (s : State) : State := kickPanel (settleLamps s)

/-! ## Requests and period starts (section 5.4) -/

/-- The generator a setting waits for, when it waits (R107). -/
def Setting.waitsFor : Setting → Option Generator
  | .off | .steady _ => none
  | .slow _ => some .slow
  | .fast _ | .attention .. => some .fast

/-- The cadence of a setting is ATTENTION. -/
def Setting.isAttention : Setting → Bool | .attention .. => true | _ => false

/-- An attention run ended: the run's colour STEADY (R107, step 3). -/
def Active.settled : Active → Active
  | .run c _ _ => .steady c
  | a => a

/-- A request taken for a position (R107). -/
def Position.request (p : Position) (r : Setting) : Position :=
  if r = p.requested ∧ !r.isAttention then p
  else
    match r with
    | .off => ⟨r, none, .off⟩
    | .steady c => ⟨r, none, .steady c⟩
    | .slow _ | .fast _ | .attention .. => ⟨r, some r, p.active.settled⟩

/-- The lamp field takes a request; positions run from 0 to 23. -/
def requestLamp (position : Nat) (r : Setting) (s : State) : State :=
  if h : position < 24 then
    s.setLamps { s.lamps with positions := modVec s.lamps.positions ⟨position, h⟩ (fun p => p.request r) }
  else s

/-- The active setting a waiting setting becomes at its period start (R107, R108). -/
def Setting.activated : Setting → Active
  | .off => .off
  | .steady c => .steady c
  | .slow c => .slow c
  | .fast c => .fast c
  | .attention c n => .run c n 1

/-- An attention run at a later FAST period start (R108). -/
def Active.advanced : Active → Active
  | .run c n k => if k < n then .run c n (k + 1) else .steady c
  | a => a

/-- A position at a period start of a generator (R107, R108). -/
def Position.atPeriodStart (g : Generator) (p : Position) : Position :=
  match p.waiting with
  | some w =>
    if w.waitsFor = some g then { p with waiting := none, active := w.activated }
    else if g = .fast then { p with active := p.active.advanced } else p
  | none => if g = .fast then { p with active := p.active.advanced } else p

/-- A generator's period begun at a moment with its codes in force (R106). -/
def CadenceGenerator.beginPeriod (g : CadenceGenerator) (start : Nat) : CadenceGenerator :=
  { g with period := some ⟨start, cadenceMs g.onCode * 1000, cadenceMs g.offCode * 1000⟩ }

/-- A generator replaced. -/
def setGenerator (g : Generator) (c : CadenceGenerator) (s : State) : State :=
  match g with
  | .slow => s.setLamps { s.lamps with slowGenerator := c }
  | .fast => s.setLamps { s.lamps with fastGenerator := c }

/-- The next period start of a generator. -/
def State.nextPeriodStart (s : State) (g : Generator) : Option Nat :=
  (s.generator g).period.map (fun p => plusUs p.start (p.onTime + p.offTime))

/-- Every position at a period start. -/
def takeUpWaiting (g : Generator) (s : State) : State :=
  s.setLamps { s.lamps with positions := mapVec (Position.atPeriodStart g) s.lamps.positions }

/-! ## Output reports (R120) -/

/-- The causes of OUTPUT REPORT, in the order of their codes. -/
inductive OutputCause where
  | start | darkLine | dip | restore | resume | dim | testStarted | testEnded
deriving DecidableEq, Repr

def OutputCause.code : OutputCause → Nat
  | .start => 0 | .darkLine => 1 | .dip => 2 | .restore => 3 | .resume => 4 | .dim => 5 | .testStarted => 6
  | .testEnded => 7

/-- The end causes of a lamp test, in the order of R122's table. -/
inductive TestEnd where
  | order | key | limit | dark | phase
deriving DecidableEq, Repr

def TestEnd.code : TestEnd → Nat | .order => 0 | .key => 1 | .limit => 2 | .dark => 3 | .phase => 4

/-- OUTPUT REPORT; the end cause is 0 unless the cause is TEST ENDED. -/
def outputReport (cause : OutputCause) (ended : TestEnd) (s : State) : State :=
  report ⟨0x57, b8 s.lamps.output.code ++ b8 cause.code
    ++ b8 (if cause = .testEnded then ended.code else 0) ++ b8 s.lamps.dim.code ++ b8 (testCode s.lamps.test)
    ++ flag (s.condition cabDarkBit) ++ b8 s.lamps.supply.code ++ b32 s.now⟩ s

/-! ## Lamp test (section 5.9) -/

/-- A test starts (R121). -/
def startTest (source : TestSource) (s : State) : State :=
  let set := s.setLamps { s.lamps with
    test := some ⟨source, plusMs s.now (s.general.testLimit * 1000), .one⟩ }
  let told := setMeterTest true (requestOneShot .single (handFlag lampTestBit true set))
  markStatus (outputReport .testStarted .order told)

/-- A test is over for the lamp field, the fault list and the meter driver (R122). -/
def clearTest (s : State) : State :=
  setMeterTest false (handFlag lampTestBit false (s.setLamps { s.lamps with test := none }))

/-- A test in progress ends in LIT with its report (R122). -/
def endTest (cause : TestEnd) (s : State) : State := markStatus (outputReport .testEnded cause (clearTest s))

/-! ## The output state (section 5.8) -/

/-- A channel as the outputs leave LIT: its last result absent, its schedule stopped (R112). -/
def LampChannel.unlit (c : LampChannel) : LampChannel := { c with lastResult := none, steadyAt := none }

/-- The key scanner holds the output state handed to it (R141). -/
def handOutputToKeys (o : OutputState) (s : State) : State := s.setKeys { s.keys with outputHeld := o }

/-- The outputs leave LIT (R119): driven colours NONE, sampling stopped, a lamp test ended, and the new state handed to
the meter driver, the chime generator and the key scanner. -/
def leaveLit (o : OutputState) (s : State) : State :=
  let dark := s.setLamps { s.lamps with
    output := o
    drives := .replicate 12 .cleared
    channels := mapVec LampChannel.unlit s.lamps.channels }
  let ended := if dark.lamps.test.isSome then clearTest dark else dark
  markStatus (handOutputToKeys o (chimeLeavesLit (redirectMeter ended)))

/-- The outputs return to LIT (R119, R126, R131, R133). -/
def enterLit (s : State) : State :=
  let lit := s.setLamps { s.lamps with output := .lit }
  markAll (handOutputToKeys .lit (chimeEntersLit (redirectMeter lit)))

/-- The output state takes a new value. -/
def setOutput (o : OutputState) (s : State) : State :=
  if s.lamps.output = o then s
  else if s.lamps.output = .lit then leaveLit o s
  else if o = .lit then enterLit s
  else markStatus (handOutputToKeys o (s.setLamps { s.lamps with output := o }))

/-- A cause of darkness is present: CAB DARK, or the supply in DIP (section 5.8). -/
def State.darkened (s : State) : Bool := s.condition cabDarkBit || s.lamps.supply == .dip

/-- CAB DARK or the supply state has changed: the output state moves by R117, and one OUTPUT REPORT is queued in RUNNING
(R120); a test ended by the darkness gives the report its cause (R122). -/
def darknessChanged (cause : OutputCause) (s : State) : State :=
  let tested := s.lamps.test.isSome
  match s.lamps.output with
  | .quiet => s
  | .lit =>
    if s.darkened then outputReport (if tested then .testEnded else cause) .dark (setOutput .dark s)
    else outputReport cause .dark s
  | .dark =>
    if s.darkened then outputReport cause .dark s
    else outputReport cause .dark (setOutput (if s.general.autoRestore then .restorePending else .resumeWait) s)
  | .restorePending | .resumeWait =>
    if s.darkened then outputReport cause .dark (setOutput .dark s) else outputReport cause .dark s

/-! ## Degraded aspects (R115) -/

/-- The channel a presented setting uses: its own in a SINGLE pair, that of the presented colour in a BICOLOUR pair. -/
def State.usedChannel (s : State) (position : Nat) (setting : Setting) : Option Nat :=
  match setting.colour with
  | none => none
  | some c =>
    if s.isBicolour position then some (2 * (position / 2) + (if c = .two then 1 else 0)) else some position

/-- A channel is OPEN or SHORTED. -/
def State.failed (s : State) (channel : Nat) : Bool :=
  if h : channel < 24 then s.lamps.channels[channel].condition != .normal else false

/-- The failing used channels of presented settings. -/
def State.failingChannels (s : State) (x : Slot) : List Nat :=
  match x.shown with
  | .aspect settings => (settings.filterMap (fun q => s.usedChannel q.1 q.2)).filter s.failed
  | _ => []

/-- The origin of an indication slot in the fault list (section 4.4). -/
def slotOrigin (i : Fin 64) : Nat := 64 + i.val

/-- A slot's DEGRADED flag. -/
def setDegraded (i : Fin 64) (value : Bool) (s : State) : State :=
  s.setSlot i { s.table[i] with degraded := value }

/-- An ASPECT slot in LIVE is assessed (R115). -/
def assess (s : State) (i : Fin 64) : State :=
  let x := s.table[i]
  if x.isAspect && x.state == .live then
    match s.failingChannels x with
    | [] => if x.degraded then internalClear 1004 (slotOrigin i) (setDegraded i false s) else s
    | c :: rest =>
      if x.degraded then s
      else internalRaise 1004 (slotOrigin i) (some (BitVec.ofNat 16 (rest.foldl min c))) (setDegraded i true s)
  else s

/-- Every ASPECT slot in LIVE is assessed, in ascending slot number (R115). -/
def assessAll (s : State) : State := (indices 64).foldl assess s

/-! ## Lamp sense (section 5.6) -/

/-- Samples of a channel are taken: lit, and not while its pair is switching (R112). -/
def State.sampling (s : State) (channel : Fin 24) : Bool :=
  s.isLit channel && (!s.isBicolour channel.val || s.lamps.drives[pairOf channel].switching.isNone)

/-- A steady sample is due (R112). -/
def State.steadySampleDue (s : State) (channel : Fin 24) : Bool :=
  s.sampling channel && s.steadilyLit channel && s.dueAt s.lamps.channels[channel].steadyAt

/-- The start of the on-phase in which a flashing channel is lit, outside lamp test. -/
def State.flashStart (s : State) (channel : Fin 24) : Option Nat :=
  if s.testing then none
  else
    match s.lamps.positions[s.positionOf channel].active with
    | .slow _ => (s.generator .slow).period.map Period.start
    | .fast _ | .run .. => (s.generator .fast).period.map Period.start
    | .off | .steady _ => none

/-- A flashing sample is due: 20 ms into the on-phase, once (R112). -/
def State.flashSampleDue (s : State) (channel : Fin 24) : Bool :=
  s.sampling channel &&
  match s.flashStart channel with
  | some start => s.elapsed start == 20000 && s.lamps.channels[channel].flashed != some start
  | none => false

/-- The result of a sample (R112). -/
def sampleResult (c : ChannelSettings) (current : Nat) : SampleResult :=
  if current < c.openThreshold then .low else if c.shortThreshold < current then .high else .ok

/-- The condition after a sample (R113). -/
def judged (before : LampCondition) (last : Option SampleResult) (now : SampleResult) : LampCondition :=
  match before, last, now with
  | .normal, some .low, .low => .openLamp
  | .normal, some .high, .high => .shorted
  | .openLamp, some .ok, .ok => .normal
  | .openLamp, some .high, .high => .shorted
  | c, _, _ => c

/-- The origin of a lamp channel in the fault list (section 4.4). -/
def lampOrigin (channel : Fin 24) : Nat := 128 + channel.val

/-- LAMP REPORT; cause 0 SAMPLES, 1 LAMP RESET (R113, R114). -/
def lampReport (channel : Fin 24) (before after : LampCondition) (cause current : Nat) (s : State) : State :=
  report ⟨0x58, b8 channel.val ++ b8 before.code ++ b8 after.code ++ b8 cause ++ n16 current ++ b32 s.now⟩ s

/-- The fault clears and raises of a change of condition, the clear before the raise (R113). -/
def conditionFaults (channel : Fin 24) (before after : LampCondition) (current : Nat) (s : State) : State :=
  let cleared := if before = .openLamp then internalClear 1005 (lampOrigin channel) s else s
  match after with
  | .openLamp => internalRaise 1005 (lampOrigin channel) (some (BitVec.ofNat 16 current)) cleared
  | .shorted => internalRaise 1006 (lampOrigin channel) (some (BitVec.ofNat 16 current)) cleared
  | .normal => cleared

/-- A lamp channel replaced. -/
def setLampChannel (channel : Fin 24) (c : LampChannel) (s : State) : State :=
  s.setLamps { s.lamps with channels := s.lamps.channels.set channel c }

/-- The schedules of a channel after a sample: the next steady sample 100 ms on, the on-phase marked as sampled. -/
def State.rescheduled (s : State) (channel : Fin 24) : LampChannel :=
  let c := s.lamps.channels[channel]
  if s.steadySampleDue channel then { c with steadyAt := c.steadyAt.map (fun t => plusUs t 100000) }
  else { c with flashed := s.flashStart channel }

/-- A channel is sampled and judged (R112, R113). -/
def takeSample (channel : Fin 24) (current : Nat) (s : State) : State :=
  let c := s.rescheduled channel
  let result := sampleResult (s.channelSettings channel) current
  let after := judged c.condition (c.lastResult.map Prod.fst) result
  if after = c.condition then setLampChannel channel { c with lastResult := some (result, current) } s
  else
    let changed := setLampChannel channel { c with condition := after, lastResult := none } s
    conclude (assessAll (conditionFaults channel c.condition after current
      (lampReport channel c.condition after 0 current changed)))

/-- LAMP_SAMPLE: a sample is taken when one is due (R112). -/
def effectLampSample (channel : Fin 24) (current : Nat) (s : State) : State :=
  if s.steadySampleDue channel || s.flashSampleDue channel then takeSample channel current s else s

/-! ## Timers of the lamp field -/

/-- The test colour of a lamp test at a SLOW period start (R122). -/
def turnTestColour (g : Generator) (s : State) : State :=
  match g, s.lamps.test with
  | .slow, some t => s.setLamps { s.lamps with test := some { t with colour := t.colour.other } }
  | _, _ => s

/-- RESTORE PENDING at a SLOW period start (R117). -/
def restoreAt (g : Generator) (s : State) : State :=
  if g = .slow ∧ s.lamps.output = .restorePending then outputReport .restore .dark (setOutput .lit s) else s

/-- PERIOD_START: the period in progress has run out and the next begins (R106 to R108, R117, R122). -/
def effectPeriodStart (g : Generator) (s : State) : State :=
  match s.nextPeriodStart g with
  | some moment =>
    if s.due moment then
      conclude (restoreAt g (turnTestColour g (takeUpWaiting g
        (setGenerator g ((s.generator g).beginPeriod moment) s))))
    else s
  | none => s

/-- SWITCHING_END: the dead time of a pair is over and the driven colour becomes the wanted colour (R111). -/
def effectSwitchingEnd (pair : Fin 12) (s : State) : State :=
  if s.dueAt s.lamps.drives[pair].switching then
    conclude (s.setLamps { s.lamps with drives := s.lamps.drives.set pair ⟨s.wanted pair, none⟩ })
  else s

/-- The lamp test in progress has reached its end time (R121). -/
def State.testLimitReached (s : State) : Bool := s.lamps.test.any (fun t => s.reached t.endTime)

/-- LAMP_TEST_LIMIT: the time counter reaches the end time of a test (R122). -/
def effectLampTestLimit (s : State) : State :=
  if s.testLimitReached then conclude (endTest .limit s) else s

/-! ## Orders of the lamp field -/

/-- The checks of SET LAMP CHANNEL (R104). -/
def setLampChannelChecks (p : List Byte) : List Check :=
  [field 1 (natAt p 0 ≤ 11), field 2 (isFlag (natAt p 1)), field 3 (natAt p 2 ≤ 15),
   field 4 (natAt p 3 ≤ 63), field 5 (natAt p 4 ≤ 63), field 6 (nat16At p 5 ≤ 1000),
   field 7 (nat16At p 7 ≤ 1000 && nat16At p 5 < nat16At p 7),
   field 8 (natAt p 9 ≤ 63), field 9 (natAt p 10 ≤ 63), field 10 (nat16At p 11 ≤ 1000),
   field 11 (nat16At p 13 ≤ 1000 && nat16At p 11 < nat16At p 13)]

/-- The pair settings a SET LAMP CHANNEL carries. -/
def pairSettingsIn (p : List Byte) : PairSettings :=
  ⟨if natAt p 1 = 0 then .single else .bicolour, natAt p 2,
   ⟨natAt p 3, natAt p 4, nat16At p 5, nat16At p 7⟩, ⟨natAt p 9, natAt p 10, nat16At p 11, nat16At p 13⟩⟩

/-- SET LAMP CHANNEL (R104). -/
def ownSetLampChannel (l : Link) (p : List Byte) (s : State) : State :=
  checked .setLampChannel l (setLampChannelChecks p) (fun s =>
    accept .setLampChannel l
      (if h : natAt p 0 < 12 then
        s.setLamps { s.lamps with pairs := s.lamps.pairs.set (natAt p 0) (pairSettingsIn p) }
       else s)) s

/-- SET CADENCE (R106): the codes govern the next period. -/
def ownSetCadence (l : Link) (p : List Byte) (s : State) : State :=
  checked .setCadence l [field 0 (isFlag (natAt p 0)), field 1 (natAt p 1 ≤ 15), field 2 (natAt p 2 ≤ 15)]
    (fun s =>
      let g : Generator := if natAt p 0 = 0 then .slow else .fast
      accept .setCadence l
        (setGenerator g { s.generator g with onCode := natAt p 1, offCode := natAt p 2 } s)) s

/-- The dim state changes: at once on every lit channel, with its report (R110). -/
def changeDim (d : DimState) (s : State) : State :=
  if s.lamps.dim = d then s
  else markStatus (outputReport .dim .order (s.setLamps { s.lamps with dim := d }))

/-- The other dim state, as the DIM key toggles it. -/
def DimState.other : DimState → DimState | .day => .night | .night => .day

/-- SET DIM (R110). R110 gives its ACCEPT and the OUTPUT REPORT of the change no order on LP0: the ACCEPT comes first, the
model's choice (log 35). -/
def ownSetDim (l : Link) (p : List Byte) (s : State) : State :=
  checked .setDim l [field 0 (isFlag (natAt p 0))]
    (fun s => conclude (changeDim (if natAt p 0 = 0 then .day else .night) (accept .setDim l s))) s

/-- LAMP TEST (R121). The reply comes first at a start by R121, and at an end by OFF by the model's choice (log 35). -/
def ownLampTest (l : Link) (p : List Byte) (s : State) : State :=
  checked .lampTest l [field 0 (isFlag (natAt p 0))]
    (fun s =>
      if natAt p 0 = 1 then
        if !s.lit then refuse .lampTest l .testBlocked 0 s
        else
          let answered := accept .lampTest l s
          if s.lamps.test.isNone then conclude (startTest .order answered) else answered
      else
        let answered := accept .lampTest l s
        if s.lamps.test.isSome then conclude (endTest .order answered) else answered) s

/-- LAMP RESET (R114). -/
def ownLampReset (l : Link) (p : List Byte) (s : State) : State :=
  checked .lampReset l [field 0 (natAt p 0 ≤ 23)]
    (fun s =>
      if h : natAt p 0 < 24 then
        let channel : Fin 24 := ⟨natAt p 0, h⟩
        let c := s.lamps.channels[channel]
        let answered := accept .lampReset l s
        if c.condition = .shorted then
          let reset := setLampChannel channel { c with condition := .normal, lastResult := none } answered
          conclude (assessAll (internalClear 1006 (lampOrigin channel)
            (lampReport channel .shorted .normal 1 0 reset)))
        else answered
      else s) s

/-- RESUME OUTPUTS (R118). That its ACCEPT comes before the OUTPUT REPORT on LP0 is the model's choice (log 35). -/
def ownResumeOutputs (l : Link) (s : State) : State :=
  if s.lamps.output = .resumeWait then
    conclude (outputReport .resume .dark (setOutput .lit (accept .resumeOutputs l s)))
  else refuse .resumeOutputs l .notDark 0 s

end Sys2Proof.Machine
end

