-- ==== Sys2Proof/Machine/Keys.lean ====
section
/-! DEFINITION. The key scanner (chapter 7): baseline, debounce, actions, reports and the stuck timer. -/

namespace Sys2Proof.Machine

/-! ## Keys by name (section 4.4 of the introduction) -/

/-- A key of the scanner replaced. -/
def putKey (i : Fin 6) (k : Key) (s : State) : State := s.setKeys { s.keys with keys := s.keys.keys.set i k }

/-- The output state held by the scanner is LIT (R141). -/
def State.keysLit (s : State) : Bool := s.keys.outputHeld == .lit

/-! ## Baseline (R138) -/

/-- A sample while the baseline is being learned. -/
def Key.learn (k : Key) (sample : BitVec 12) : Key :=
  let sum := k.sampleSum + sample.toNat
  let counted := { k with lastSample := some sample, sampleCount := k.sampleCount + 1, sampleSum := sum }
  if k.sampleCount + 1 = 8 then { counted with baseline := some ((2 * sum + 8) / 16) } else counted

/-- A baseline moved 1 toward a sample. -/
def stepToward (baseline sample : Nat) : Nat :=
  if baseline < sample then baseline + 1 else if sample < baseline then baseline - 1 else baseline

/-- The judgement of a sample (R139). -/
inductive Touch where
  | touched | untouched | band
deriving DecidableEq, Repr

def Key.judge (k : Key) (baseline sample : Nat) : Touch :=
  if sample + k.settings.touch < baseline then .touched
  else if baseline < sample + k.settings.release then .untouched
  else .band

/-- The drift tracking of a RELEASED key (R138). -/
def Key.tracked (k : Key) (baseline sample : Nat) (t : Touch) : Key :=
  match t with
  | .untouched =>
    if k.track = 15 then { k with track := 0, baseline := some (stepToward baseline sample) }
    else { k with track := k.track + 1 }
  | .touched | .band => { k with track := 0 }

/-! ## Reports (R142) -/

/-- The events of KEY REPORT, in the order of section 9.6. -/
inductive KeyEvent where
  | pressed | released | stuck
deriving DecidableEq, Repr

def KeyEvent.code : KeyEvent → Nat | .pressed => 0 | .released => 1 | .stuck => 2

/-- KEY REPORT. The byte "from STUCK" of PRESSED and STUCK, to which R142 gives no value, is 0: the model's choice
(log 33). -/
def keyFrame (i : Fin 6) (event : KeyEvent) (fromStuck : Bool) (k : Key) (now : Time) : Frame :=
  ⟨0x56, b8 i.val ++ b8 event.code ++ flag fromStuck ++ n16 ((k.lastSample.map BitVec.toNat).getD 0)
    ++ n16 (k.baseline.getD 0) ++ b32 now⟩

/-- A frame queued on a link when the set names it. -/
def queueOn (set : Byte) (l : Link) (f : Frame) (s : State) : State :=
  if memberOf (linkCode l) set then queueFrame l f s else s

/-- The KEY REPORT of a change taken in LIT, LP0 before LP1 (R142). -/
def keyReport (i : Fin 6) (event : KeyEvent) (fromStuck : Bool) (s : State) : State :=
  if s.keysLit then
    let k := s.keys.keys[i]
    let f := keyFrame i event fromStuck k s.now
    queueOn k.settings.reports .lp1 f (queueOn k.settings.reports .lp0 f s)
  else s

/-! ## Actions (R141) -/

/-- The action of a press taken in LIT. -/
def pressAction (i : Fin 6) (s : State) : State :=
  match i with
  | 0 => acknowledgeFirst s
  | 1 => pageUp s
  | 2 => pageDown s
  | 3 => if s.lamps.test.isNone then startTest .key s else s
  | 4 => changeDim s.lamps.dim.other s
  | 5 => s

/-- A test of source KEY is in progress. -/
def State.keyTest (s : State) : Bool := s.lamps.test.any (fun t => t.source == .key)

/-- The action of a release from PRESSED taken in LIT. -/
def releaseAction (i : Fin 6) (s : State) : State := if i = 3 ∧ s.keyTest = true then endTest .key s else s

/-- A press: its report, then its action (R139, R141, R142). -/
def press (i : Fin 6) (k : Key) (s : State) : State :=
  let pressed := putKey i { k with
    state := .pressed, run := 0, pressTime := some s.now
    stuckTimer := some (plusMs s.now (k.settings.stuckLimit * 1000)) } s
  let reported := keyReport i .pressed false pressed
  if s.keysLit then pressAction i reported else reported

/-- A release: its report, then from PRESSED its action, from STUCK the clear of fault 1007 (R140, R141). -/
def release (i : Fin 6) (k : Key) (s : State) : State :=
  let released := putKey i { k with state := .released, run := 0, pressTime := none, stuckTimer := none } s
  let reported := keyReport i .released (k.state == .stuck) released
  if k.state = .stuck then internalClear 1007 (160 + i.val) reported
  else if s.keysLit then releaseAction i reported else reported

/-! ## Scanning (R137, R139) -/

/-- A sample judged against the learned baseline (R138, R139). -/
def judgeSample (i : Fin 6) (k : Key) (baseline sample : Nat) (s : State) : State :=
  let t := k.judge baseline sample
  match k.state with
  | .released =>
    let tracked := k.tracked baseline sample t
    if t = .touched then
      if 3 ≤ k.run + 1 then press i tracked s else putKey i { tracked with run := k.run + 1 } s
    else putKey i { tracked with run := 0 } s
  | .pressed | .stuck =>
    if t = .untouched then
      if 3 ≤ k.run + 1 then release i k s else putKey i { k with run := k.run + 1 } s
    else putKey i { k with run := 0 } s

/-- One key's sample, judged, with its report and action. -/
def sampleKey (samples : Vector (BitVec 12) 6) (s : State) (i : Fin 6) : State :=
  let k := s.keys.keys[i]
  let sample := samples[i]
  match k.baseline with
  | none => putKey i (k.learn sample) s
  | some baseline => judgeSample i { k with lastSample := some sample } baseline sample.toNat s

/-- One key's sample handled whole: its effects, the start of an idle panel transmitter among them, are complete before
the next key's sample is taken (R137). -/
def scanKey (samples : Vector (BitVec 12) 6) (s : State) (i : Fin 6) : State := conclude (sampleKey samples s i)

/-- KEY_SCAN: the scan timer expires and the keys are measured in key order (R137). -/
def effectKeyScan (samples : Vector (BitVec 12) 6) (s : State) : State :=
  match s.keys.scanAt with
  | some moment =>
    if s.running && s.due moment then
      (indices 6).foldl (scanKey samples) (s.setKeys { s.keys with scanAt := some (plusUs moment 20000) })
    else s
  | none => s

/-- STUCK_TIMER_EXPIRY: the stuck timer of a PRESSED key expires (R140). -/
def effectStuckTimerExpiry (i : Fin 6) (s : State) : State :=
  let k := s.keys.keys[i]
  match k.stuckTimer with
  | some t =>
    if s.running && k.state == .pressed && s.reached t then
      let stuck := putKey i { k with state := .stuck, stuckTimer := none } s
      conclude (internalRaise 1007 (160 + i.val) none (keyReport i .stuck false stuck))
    else s
  | none => s

/-! ## SET KEY (R136) -/

/-- The checks of SET KEY. -/
def setKeyChecks (p : List Byte) : List Check :=
  [field 1 (natAt p 0 ≤ 5), field 2 (within 2 32 (natAt p 1)), field 3 (within 4 64 (natAt p 2)),
   field 4 (within 20 1000 (nat16At p 3)), field 5 (within 10 1000 (nat16At p 5) && nat16At p 5 < nat16At p 3),
   field 6 (within 5 60 (natAt p 7)), field 7 (within 1 3 (natAt p 8))]

/-- SET KEY. -/
def ownSetKey (l : Link) (p : List Byte) (s : State) : State :=
  checked .setKey l (setKeyChecks p) (fun s =>
    if h : natAt p 0 < 6 then
      let i : Fin 6 := ⟨natAt p 0, h⟩
      accept .setKey l (putKey i { s.keys.keys[i] with
        settings := ⟨natAt p 1, natAt p 2, nat16At p 3, nat16At p 5, natAt p 7, byteAt p 8⟩ } s)
    else s) s

/-! ## Phase events (R143) -/

/-- The scanner with its settings kept and its run state cleared. -/
def KeyScanner.restarted (k : KeyScanner) (scanAt : Option Nat) : KeyScanner :=
  ⟨mapVec (fun key => Key.cleared key.settings) k.keys, scanAt, .quiet⟩

/-- The scanner at START: its timer begins a period. The output state is handed over by the lamp field. -/
def startKeys (s : State) : State := s.setKeys (s.keys.restarted (some (plusUs s.clock 20000)))

/-- The scanner as RUNNING is left. -/
def leaveKeys (s : State) : State := s.setKeys (s.keys.restarted none)

end Sys2Proof.Machine
end

