-- ==== Sys2Proof/Machine/Ports.lean ====
section
/-! DEFINITION. The link ports (chapter 8): settings and their take-up, line errors and breaks, the link fault monitor,
and the time of a frame. The bytes of a frame are taken in Machine/Receiver.lean. -/

namespace Sys2Proof.Machine

/-! ## Character times (R144) -/

/-- The bits of a character as the receiver times it. -/
def LinkSettings.characterBits (c : LinkSettings) : Nat := if c.parity = .none then 10 else 11

/-- A number of bit times has passed since a moment. -/
def State.bitsPassed (s : State) (c : LinkSettings) (since bits : Nat) : Bool :=
  bits * 1000000 ≤ s.elapsed since * baud c.rate

/-- The whole microseconds of 2 character times, after which a low line is a break (R149). -/
def LinkSettings.breakUs (c : LinkSettings) : Nat := 2 * c.characterBits * 1000000 / baud c.rate

/-! ## Line errors (R149) -/

/-- The six errors of a receiver. -/
inductive LineError where
  | parity | stop | length | check | gap | lineBreak
deriving DecidableEq, Repr

/-- The counter of an error increased; each holds at 65535. -/
def ErrorCounters.count (c : ErrorCounters) : LineError → ErrorCounters
  | .parity => { c with parity := saturate 65535 c.parity }
  | .stop => { c with stop := saturate 65535 c.stop }
  | .length => { c with length := saturate 65535 c.length }
  | .check => { c with check := saturate 65535 c.check }
  | .gap => { c with gap := saturate 65535 c.gap }
  | .lineBreak => { c with lineBreak := saturate 65535 c.lineBreak }

/-- An error is counted, the partial frame discarded and the receiver returned to HUNT; in RUNNING the error is counted
for the interval of the link's fault monitor as well (R149, R150). -/
def countError (l : Link) (e : LineError) (s : State) : State :=
  let p := s.port l
  s.setPort l { p with
    receiver := .hunting
    counters := p.counters.count e
    monitor := if s.running then { p.monitor with errors := saturate 255 p.monitor.errors } else p.monitor }

/-- The gap timer has reached the gap limit outside HUNT (R148, R149). -/
def State.gapOver (s : State) (l : Link) : Bool :=
  s.listening l && (s.port l).receiver.state != .hunt
    && (s.port l).settings.gapLimit * 1000 ≤ s.elapsed (s.port l).receiver.lastByteAt

/-- GAP_ERROR (R149). -/
def effectGapError (l : Link) (s : State) : State := if s.gapOver l then countError l .gap s else s

/-- The low period that woke the part may last: less than 2 character times have passed since the wake, so that no later
period can be a break yet (R149, R167; log 23). -/
def State.wakeLowLasts (s : State) (l : Link) : Bool :=
  match (s.port l).wokeAt with
  | some moment => !s.bitsPassed (s.port l).settings moment (2 * (s.port l).settings.characterBits)
  | none => false

/-- The port with its line low in a break, having fallen 2 character times ago (log 38). -/
def Port.fallen (p : Port) (clock : Nat) : Port :=
  { p with
    lineLow := true
    wakesFrom :=
      if p.lineLow then p.wakesFrom
      else if 1000 ≤ p.settings.breakUs then none
      else some (plusUs clock (1000 - p.settings.breakUs)) }

/-- BREAK: the line has been low for 2 character times. Counted once per low period, unless that period woke the part
(R149, R167). -/
def effectBreak (l : Link) (s : State) : State :=
  let counted := if s.listening l && !s.wakeLowLasts l then countError l .lineBreak s else s
  counted.setPort l ((counted.port l).fallen s.clock)

/-- BREAK_END: the line rises and the receiver is in HUNT (R149); it can have been low for 1 ms again 1 ms from now. -/
def effectBreakEnd (l : Link) (s : State) : State :=
  let p := s.port l
  s.setPort l { p with
    lineLow := false, wakesFrom := some (plusUs s.clock 1000), wokeAt := none
    receiver := if p.lineLow then .hunting else p.receiver }

/-! ## Settings (R145, R146) -/

/-- Pending settings are taken up once the link's queue is empty. -/
def takeUp (l : Link) (s : State) : State :=
  let p := s.port l
  match p.pendingSettings with
  | some c =>
    if p.queue.isEmpty then
      s.setPort l { p with
        settings := c, pendingSettings := none, receiver := .hunting, notBefore := some s.clock }
    else s
  | none => s

/-- The checks of SET LINK (R145). -/
def setLinkChecks (p : List Byte) : List Check :=
  [field 1 (natAt p 0 ≤ 1), field 2 (natAt p 1 ≤ 4), field 3 (natAt p 2 ≤ 2), field 4 (within 1 2 (natAt p 3)),
   field 5 (within 2 20 (natAt p 4)), field 6 (natAt p 0 == 0 || isFlag (natAt p 5))]

/-- The settings a SET LINK carries; LP0 is always enabled. -/
def linkSettingsIn (p : List Byte) : LinkSettings :=
  ⟨natAt p 1, parityOf (natAt p 2), natAt p 3, natAt p 4, natAt p 0 == 0 || natAt p 5 == 1⟩

/-- SET LINK (R145): the settings become pending, and are taken up by R146. -/
def ownSetLink (l : Link) (p : List Byte) (s : State) : State :=
  checked .setLink l (setLinkChecks p) (fun s =>
    let named : Link := if natAt p 0 = 0 then .lp0 else .lp1
    let answered := accept .setLink l s
    takeUp named (answered.setPort named
      { answered.port named with pendingSettings := some (linkSettingsIn p) })) s

/-! ## Times on the line (R144) -/

/-- The bits of a byte as it is sent. -/
def LinkSettings.sentBits (c : LinkSettings) : Nat := c.characterBits - 1 + c.stopBits

/-- The line bytes of a frame (R147). -/
def Frame.lineLength (f : Frame) : Nat := f.payload.length + 5

/-- The level a link's transmit line has now (R144): that of the frame in transmission at the bit time reached, or high
while the line is idle. -/
def State.transmitLevel (s : State) (l : Link) : Bool :=
  let p := s.port l
  match p.queue with
  | f :: _ => levelAt (frameBits p.settings.parity p.settings.stopBits f)
      (s.elapsed p.txStart * baud p.settings.rate / 1000000)
  | [] => true

/-- The frame in transmission on a link has ended. -/
def State.frameOver (s : State) (l : Link) : Bool :=
  match (s.port l).queue with
  | f :: _ => s.bitsPassed (s.port l).settings (s.port l).txStart (f.lineLength * (s.port l).settings.sentBits)
  | [] => false

/-! ## The link fault monitor (R150) -/

/-- The origin of a link in the fault list. -/
def linkOrigin : Link → Nat | .lp0 => 180 | .lp1 => 181

/-- The monitor after judging the interval that ended. -/
def LinkMonitor.judged (m : LinkMonitor) : LinkMonitor :=
  let cleared := { m with errors := 0 }
  if 8 ≤ m.errors then { cleared with cleanRun := 0, mark := true }
  else if 0 < m.errors then { cleared with cleanRun := 0 }
  else if m.mark then
    if 10 ≤ m.cleanRun + 1 then { cleared with cleanRun := 0, mark := false }
    else { cleared with cleanRun := m.cleanRun + 1 }
  else cleared

/-- The raise or clear of fault 1009 that a judgement asks for. -/
def linkVerdict (l : Link) (before after : LinkMonitor) (s : State) : State :=
  if after.mark && !before.mark then internalRaise 1009 (linkOrigin l) (some (BitVec.ofNat 16 before.errors)) s
  else if before.mark && !after.mark then internalClear 1009 (linkOrigin l) s
  else s

/-- The monitor begun at START, with its first period. -/
def LinkMonitor.begun (clock : Nat) : LinkMonitor := { LinkMonitor.stopped with expiry := some (plusUs clock 1000000) }

/-- The link interval of a link is over, in RUNNING (R150). -/
def State.intervalDue (s : State) (l : Link) : Bool := s.running && s.dueAt (s.port l).monitor.expiry

/-- The link interval of a link ends: judged, and the next period begins (R150). -/
def intervalEnds (l : Link) (s : State) : State :=
  match (s.port l).monitor.expiry with
  | some moment =>
    let before := (s.port l).monitor
    let after := { before.judged with expiry := some (plusUs moment 1000000) }
    linkVerdict l before after (s.setPort l { s.port l with monitor := after })
  | none => s

/-! ## Phase events (R153) -/

/-- The monitors of both links set. -/
def setMonitors (m : LinkMonitor) (s : State) : State :=
  { s with lp0 := { s.lp0 with monitor := m }, lp1 := { s.lp1 with monitor := m } }

/-- A port with its error counters and lost counts at 0. -/
def Port.zeroed (p : Port) : Port := { p with counters := .zero, reportLost := 0, replyLost := 0 }

/-- The counters and lost counts of both links at 0 (R153). -/
def zeroCounters (s : State) : State := { s with lp0 := s.lp0.zeroed, lp1 := s.lp1.zeroed }

/-- A port with every frame that is not in transmission discarded, uncounted. -/
def Port.drained (p : Port) : Port := { p with queue := p.queue.take 1 }

/-- A port with its receiver held in HUNT. -/
def Port.hunting (p : Port) : Port := { p with receiver := .hunting }

end Sys2Proof.Machine
end

