-- ==== Sys2Proof/Machine/Table.lean ====
section
/-! DEFINITION. The Indication Table and the aspect map (chapters 1 and 2): slot definitions, presentation, lapse and
recovery, slot 0, the speed band, the pairs of an UPDATE, KEEP ALIVE and the freshness monitors. -/

namespace Sys2Proof.Machine

/-! ## The aspect map (sections 2.1 to 2.3) -/

/-- The entry of a key. -/
def findAspect (system code : Nat) (m : List AspectEntry) : Option AspectEntry :=
  m.find? (fun e => e.system == system && e.code == code)

/-- The map without a key. -/
def withoutAspect (system code : Nat) (m : List AspectEntry) : List AspectEntry :=
  m.eraseP (fun e => e.system == system && e.code == code)

/-- The pattern of an ASPECT slot with a fallback code (R35). The lookup always finds an entry in RUNNING. -/
def State.patternOf (s : State) (x : Slot) (fallback : Nat) : List PatternSetting :=
  let entry := match x.state with
    | .live => findAspect s.changeover.active ((x.value.getD 0).toNat) s.aspects
    | .transit => findAspect 0 0 s.aspects
    | .awaiting | .lapsed | .undefined => findAspect 0 fallback s.aspects
  (entry.map AspectEntry.pattern).getD []

/-- The setting in byte `5 + 3 i` of a DEFINE ASPECT. -/
def patternSettingIn (p : List Byte) (i : Nat) : PatternSetting :=
  ⟨natAt p (5 + 3 * i), colourOf (natAt p (6 + 3 * i)), cadenceOf (natAt p (7 + 3 * i))⟩

/-- The check of one setting of a DEFINE ASPECT (R33). -/
def patternSettingCheck (p : List Byte) (i : Nat) : Check :=
  field (6 + i) (natAt p (5 + 3 * i) ≤ 23 && within 1 2 (natAt p (6 + 3 * i)) && natAt p (7 + 3 * i) ≤ 3
    && !(List.range i).any (fun j => natAt p (5 + 3 * j) == natAt p (5 + 3 * i)))

/-- The checks of DEFINE ASPECT (R33). -/
def defineAspectChecks (p : List Byte) : List Check :=
  let key := [field 1 (natAt p 0 ≤ 4), field 2 (natAt p 1 ≤ 63), field 3 (isFlag (natAt p 2))]
  if natAt p 2 = 1 then key
  else key ++ [field 4 (natAt p 3 ≤ 15), field 5 (natAt p 4 ≤ 8)]
    ++ (List.range (natAt p 4)).map (patternSettingCheck p)

/-- What a DEFINE ASPECT that passes its checks does to the map (R34). -/
def defineAspectEffect (l : Link) (p : List Byte) (s : State) : State :=
  let entry : AspectEntry :=
    ⟨natAt p 0, natAt p 1, natAt p 3, (List.range (natAt p 4)).map (patternSettingIn p)⟩
  let held := (findAspect entry.system entry.code s.aspects).isSome
  let store (m : List AspectEntry) : State := accept .defineAspect l (s.setAspects m)
  if natAt p 2 = 1 then
    if held then store (withoutAspect entry.system entry.code s.aspects)
    else refuse .defineAspect l .noEntry 2 s
  else if held then
    store (s.aspects.map (fun e => if e.system = entry.system ∧ e.code = entry.code then entry else e))
  else if s.aspects.length < Config.mapCapacity then store (s.aspects ++ [entry])
  else refuse .defineAspect l .tableFull 2 s

/-- DEFINE ASPECT (R33, R34). -/
def ownDefineAspect (l : Link) (p : List Byte) (s : State) : State :=
  checked .defineAspect l (defineAspectChecks p) (defineAspectEffect l p) s

/-! ## DEFINE SLOT (sections 1.1, R158) -/

/-- The group of positions an ASPECT definition carries. -/
def groupIn (p : List Byte) : List Nat := (List.range (natAt p 7)).map (fun i => natAt p (8 + i))

/-- The signed value is BLANK (section 9.4). -/
def isBlank (w : Word) : Bool := w == 0x8000

/-- The range a NUMBER definition carries, or the full one. -/
def rangeIn (p : List Byte) : Int × Int :=
  if natAt p 20 = 0 then (-32767, 32767) else (int16At p 21, int16At p 23)

/-- The checks of fields 6 to 10 that belong to a kind (R1, R158). -/
def kindChecks (p : List Byte) : List Check :=
  match natAt p 1 with
  | 1 =>
    let range := rangeIn p
    [field 6 (isBlank (wordAt p 5) || (decide (range.1 ≤ int16At p 5) && decide (int16At p 5 ≤ range.2))),
     field 7 (natAt p 8 == 0xff || within 1 15 (natAt p 8)),
     field 8 (isFlag (natAt p 20) && decide (range.1 ≤ range.2) && decide (-32767 ≤ range.1)),
     field 9 (natAt p 25 ≤ 3)]
  | 2 =>
    [field 6 (nat16At p 5 ≤ 63),
     field 7 (within 1 12 (natAt p 7) && (groupIn p).all (fun n => n ≤ 23) && decide (groupIn p).Nodup),
     field 10 (isFlag (natAt p 26) && within 1 15 (natAt p 27))]
  | _ => [field 6 (nat16At p 5 ≤ 6), field 7 (natAt p 8 ≤ 23)]

/-- The checks of DEFINE SLOT, in field order (R1). -/
def defineSlotChecks (p : List Byte) : List Check :=
  let key := [⟨natAt p 0 != 0, .reservedSlot, 1⟩, field 1 (natAt p 0 < 64), field 2 (natAt p 1 ≤ 3)]
  if natAt p 1 = 0 then key
  else key ++ [field 3 (natAt p 2 != 0 && natAt p 2 < 32), field 4 (natAt p 3 < 32),
    field 5 (natAt p 4 ≤ 16 && !(natAt p 1 == 2 && natAt p 4 == 16))]
    ++ kindChecks p ++ [field 11 (isFlag (natAt p 28))]

/-- The part of a definition that belongs to its kind. -/
def slotBodyIn (p : List Byte) : SlotBody :=
  match natAt p 1 with
  | 1 => .number (if isBlank (wordAt p 5) then none else some (int16At p 5))
      (if natAt p 8 = 0xff then none else some (natAt p 8))
      (if natAt p 20 = 0 then none else some (rangeIn p)) (natAt p 25)
  | 2 => .aspect (nat16At p 5) (groupIn p) (natAt p 26 == 1) (natAt p 27)
  | _ => .state (nat16At p 5) (natAt p 8)

/-- The definition a DEFINE SLOT carries; absent for kind NONE. -/
def slotDefIn (p : List Byte) : Option SlotDef :=
  if natAt p 1 = 0 then none
  else some ⟨byteAt p 2, byteAt p 3, natAt p 4, slotBodyIn p, natAt p 28 == 1⟩

/-- A slot newly defined, or made UNDEFINED (R2). -/
def Slot.fresh (d : Option SlotDef) : Slot :=
  { Slot.undefined with definition := d, state := if d.isSome then .awaiting else .undefined }

/-- DEFINE SLOT (R1, R2). -/
def ownDefineSlot (l : Link) (p : List Byte) (s : State) : State :=
  checked .defineSlot l (defineSlotChecks p) (fun s =>
    if h : natAt p 0 < 64 then accept .defineSlot l (s.setSlot ⟨natAt p 0, h⟩ (Slot.fresh (slotDefIn p))) else s) s

/-! ## Presentation (section 1.8) -/

/-- A pattern setting as presented (R20). -/
def PatternSetting.presented (q : PatternSetting) (bicolour flashing : Bool) (count : Nat) : Setting :=
  let colour := if bicolour then q.colour else .one
  match q.cadence with
  | .steady => if flashing then .attention colour count else .steady colour
  | .slow => .slow colour
  | .fast => .fast colour
  | .attention => .attention colour count

/-- The setting a pattern presents at a position; OFF when the pattern does not name it (R20). -/
def State.presentedAt (s : State) (pattern : List PatternSetting) (flashing : Bool) (count position : Nat) : Setting :=
  match pattern.find? (fun q => q.position == position) with
  | some q => q.presented (s.isBicolour position) flashing count
  | none => .off

/-- The request of a STATE value (R21). -/
def stateSetting : Nat → Setting
  | 1 => .steady .one
  | 2 => .slow .one
  | 3 => .fast .one
  | 4 => .steady .two
  | 5 => .slow .two
  | 6 => .fast .two
  | _ => .off

/-- What a slot with a definition presents in its state (R19); `flashing` marks a restrictive change (R37). -/
def State.contentOf (s : State) (x : Slot) (d : SlotDef) (flashing : Bool) : Shown :=
  match d.body with
  | .number fallback _ _ _ => .number (if x.state = .live then x.value.map BitVec.toInt else fallback)
  | .aspect fallback group _ count =>
    .aspect (group.map (fun position => (position, s.presentedAt (s.patternOf x fallback) flashing count position)))
  | .state fallback _ => .state (stateSetting (if x.state = .live then (x.value.getD 0).toNat else fallback))

/-- The content goes where the slot's kind sends it: requests, a panel field, the meter driver (R20 to R22). -/
def deliver (i : Fin 64) (d : SlotDef) (content : Shown) (s : State) : State :=
  match d.body, content with
  | .number _ f _ _, .number v =>
    let shown := match f with
      | some f => markItem (1 + f) s
      | none => s
    if i.val = 0 then presentToMeter (if s.table[i].state = .live then v.map Int.toNat else none) shown else shown
  | .aspect .., .aspect settings => settings.foldl (fun s q => requestLamp q.1 q.2 s) s
  | .state _ position, .state setting => requestLamp position setting s
  | _, _ => s

/-- A slot is presented when it must be, or when its content has changed (R19); an ASPECT slot presented while LIVE is
then assessed (R115). -/
def present (i : Fin 64) (must flashing : Bool) (s : State) : State :=
  let x := s.table[i]
  match x.definition with
  | some d =>
    let content := s.contentOf x d flashing
    if must = true ∨ content ≠ x.shown then
      assess (deliver i d content (s.setSlot i { x with shown := content })) i
    else s
  | none => s

/-! ## The speed band (section 1.9) -/

/-- The value of a LIVE slot as a signed number. -/
def Slot.liveValue (x : Slot) : Option Int := if x.state = .live then x.value.map BitVec.toInt else none

/-- The displayed speed and the permitted speed of the band, each absent when not LIVE. -/
def State.bandSpeed (s : State) : Option Int := s.table[(0 : Fin 64)].liveValue
def State.permittedSpeed (s : State) : Option Int := s.general.permittedSlot.bind (fun i => s.table[i].liveValue)

/-- The band state at an evaluation (R25). -/
def State.nextBand (s : State) : BandState :=
  match s.bandSpeed, s.permittedSpeed with
  | some v, some p =>
    let limit := p + s.general.margin
    match s.band with
    | .warning => if v ≤ limit - s.general.hysteresis then .normal else .warning
    | .unknown | .normal => if limit < v then .warning else .normal
  | _, _ => .unknown

/-- The band lamp, when set, is requested in a cadence or OFF (R26). -/
def requestBandLamp (on : Bool) (s : State) : State :=
  match s.general.bandLamp with
  | some (position, colour) => requestLamp position.val (if on then .fast colour else .off) s
  | none => s

/-- BAND REPORT (R26). -/
def bandReport (s : State) : State :=
  let speed (v : Option Int) : List Byte := optional 2 (v.map (fun v => b16 (BitVec.ofInt 16 v)))
  report ⟨0x55, b8 s.band.code ++ speed s.bandSpeed ++ speed s.permittedSpeed ++ b8 s.general.margin⟩ s

/-- The band is evaluated (R25, R26). -/
def evaluateBand (s : State) : State :=
  let next := s.nextBand
  if next = s.band then s
  else
    let moved := s.setBand next
    let shown :=
      if next = .warning then
        let lamped := requestBandLamp true moved
        if s.general.bandChime then requestOneShot .triple lamped else lamped
      else if s.band = .warning then requestBandLamp false moved
      else moved
    markStatus (bandReport shown)

/-- The band looks at this slot. -/
def State.bandWatches (s : State) (i : Fin 64) : Bool := i.val == 0 || s.general.permittedSlot == some i

/-! ## Lapse and recovery (section 1.6) -/

/-- The causes of a lapse, in the order of section 9.6. -/
inductive LapseCause where
  | deadline | noFirstValue | window | withdrawn
deriving DecidableEq, Repr

def LapseCause.code : LapseCause → Nat | .deadline => 0 | .noFirstValue => 1 | .window => 2 | .withdrawn => 3

/-- SLOT REPORT; a recovery has no cause (R14, R17). -/
def slotReport (i : Fin 64) (cause : Option LapseCause) (s : State) : State :=
  let x := s.table[i]
  report ⟨0x51, b8 i.val ++ b8 (if cause.isSome then 0 else 1) ++ b8 ((cause.map LapseCause.code).getD 0)
    ++ b8 x.lapses ++ optional 1 (x.lastSource.map b8) ++ b32 s.now⟩ s

/-- The run state of a slot as it lapses (R14). -/
def Slot.lapse (x : Slot) : Slot :=
  { x with state := .lapsed, value := none, rank := none, lapses := saturate 255 x.lapses, monitor := .stopped
           degraded := false }

/-- The clear of fault 1004 for a slot that was DEGRADED as it left LIVE (R23). -/
def clearDegraded (i : Fin 64) (was : Bool) (s : State) : State :=
  if was then internalClear 1004 (slotOrigin i) s else s

/-- The lapse alarm of a slot (R14). -/
def alarm (i : Fin 64) (s : State) : State :=
  let x := s.table[i]
  if x.definition.any SlotDef.lapseAlarm then
    internalRaise 1008 (slotOrigin i) (some (BitVec.ofNat 16 x.lapses)) s
  else s

/-- The band is evaluated when it watches the slot. -/
def evaluateBandFor (i : Fin 64) (s : State) : State := if s.bandWatches i then evaluateBand s else s

/-- A lapse of a slot (R14). A NUMBER slot is presented, its state having changed (R19). -/
def lapse (i : Fin 64) (cause : LapseCause) (s : State) : State :=
  let x := s.table[i]
  let reported := slotReport i (some cause) (s.setSlot i x.lapse)
  let alarmed := alarm i (clearDegraded i x.degraded reported)
  evaluateBandFor i (present i x.isNumber false alarmed)

/-- A slot has been made LIVE from the state it was in: a return from LAPSED is reported RECOVERED, and from every state
but LIVE the clear of fault 1008 is asked, which a TRANSIT or AWAITING since the lapse has left in the list (R17). -/
def madeLive (i : Fin 64) (before : SlotState) (s : State) : State :=
  if before = .live then s
  else internalClear 1008 (slotOrigin i) (if before = .lapsed then slotReport i none s else s)

/-- MONITOR_EXPIRY: the time counter reaches the expiry time of an ARMED monitor in RUNNING (R15). -/
def effectMonitorExpiry (i : Fin 64) (s : State) : State :=
  match s.table[i].monitor with
  | .armed expiry =>
    if s.running && s.reached expiry then
      conclude (lapse i (if s.table[i].state = .live then .deadline else .noFirstValue) s)
    else s
  | .stopped | .suspended => s

/-! ## Slot 0 (section 1.7) -/

/-- A slot made LIVE by a value from a source (R10, R18). -/
def Slot.live (x : Slot) (value : Word) (source : Nat) (now : Time) (monitor : Monitor) (rank : Option Nat) : Slot :=
  { x with state := .live, value := some value, lastSource := some source, lastUpdate := some now, monitor, rank }

/-- The speed unit writes slot 0 (R18). -/
def writeSlotZero (speed : Option Nat) (s : State) : State :=
  let x := s.table[(0 : Fin 64)]
  match speed with
  | some v =>
    let value := BitVec.ofNat 16 v
    let written := s.setSlot 0 (x.live value 5 s.now .stopped none)
    if x.state = .live ∧ x.value = some value then written
    else evaluateBand (present 0 (x.state != .live) false (madeLive 0 x.state written))
  | none => if x.state = .live then lapse 0 .withdrawn s else s

/-! ## UPDATE and KEEP ALIVE (sections 1.4 and 1.5) -/

/-- The check of a source against its arrival link (R8). -/
def sourceCheck (l : Link) (source : Nat) : Check := ⟨sourceAllowed l source, .badSource, 0⟩

/-- The pairs of an UPDATE: slot number and value (R157). -/
def pairsIn (p : List Byte) : List (Nat × Word) :=
  (List.range ((p.length - 2) / 3)).map (fun i => (natAt p (2 + 3 * i), wordAt p (3 + 3 * i)))

/-- The value is valid for a slot with a definition (R5). -/
def State.validFor (s : State) (d : SlotDef) (value : Word) : Bool :=
  match d.body with
  | .number _ _ range _ =>
    let r := range.getD (-32767, 32767)
    !isBlank value && decide (r.1 ≤ value.toInt) && decide (value.toInt ≤ r.2)
  | .aspect .. => (findAspect s.changeover.active value.toNat s.aspects).isSome
  | .state _ position => value.toNat ≤ 3 || (value.toNat ≤ 6 && s.isBicolour position)

/-- The slot of a number, when there is one. -/
def State.slotNumbered (s : State) (n : Nat) : Slot := if h : n < 64 then s.table[n] else Slot.undefined

/-- The tests of pair `index`, in their order (R9); `earlier` are the slots named before it. -/
def State.pairChecks (s : State) (source : Nat) (earlier : List Nat) (index : Nat) (pair : Nat × Word) : List Check :=
  let x := s.slotNumbered pair.1
  [⟨x.definition.isSome, .noSlot, index⟩,
   ⟨pair.1 != 0, .reservedSlot, index⟩,
   ⟨x.definition.any (fun d => memberOf source d.owner), .notOwner, index⟩,
   ⟨!x.isAspect || source == 0 || source == s.changeover.active, .notActiveSystem, index⟩,
   ⟨x.definition.any (fun d => s.validFor d pair.2), .badValue, index⟩,
   ⟨!earlier.contains pair.1, .duplicateSlot, index⟩]

/-- The tests of all pairs, in pair order. -/
def State.allPairChecks (s : State) (source : Nat) (pairs : List (Nat × Word)) : List Check :=
  (List.range pairs.length).flatMap (fun i =>
    s.pairChecks source ((pairs.take i).map Prod.fst) i (pairs.getD i (0, 0)))

/-- One pair applied to its slot (R10, R36). -/
def applyPair (source : Nat) (s : State) (pair : Nat × Word) : State :=
  if h : pair.1 < 64 then
    let i : Fin 64 := ⟨pair.1, h⟩
    let x := s.table[i]
    let rank := if x.isAspect then
      (findAspect s.changeover.active pair.2.toNat s.aspects).map AspectEntry.rank else none
    s.setSlot i (x.live pair.2 source s.now (s.armedMonitor x) rank)
  else s

/-- The new value is a restrictive change that flashes (R37), from the slot before and after its pair. -/
def Slot.flashes (before after : Slot) : Bool :=
  before.state == .live
    && (match before.definition with
        | some d => (match d.body with | .aspect _ _ attention _ => attention | _ => false)
        | none => false)
    && (match before.rank, after.rank with
        | some old, some new => decide (old < new)
        | _, _ => false)

/-- The presentation a pair causes, from the slot as it stood before the UPDATE (R10, R19, R37): none for a LIVE value
repeated; always for a NUMBER slot whose state changed and for an ASPECT slot entering LIVE or given another value. -/
def presentPair (before : State) (s : State) (pair : Nat × Word) : State :=
  if h : pair.1 < 64 then
    let i : Fin 64 := ⟨pair.1, h⟩
    let x := before.table[i]
    let repeated := x.state == .live && x.value == some pair.2
    if repeated then s
    else present i (x.isAspect || (x.isNumber && x.state != .live)) (x.flashes s.table[i]) s
  else s

/-- The report and clear of a pair's slot as it returns to LIVE (R10, R17). -/
def recoverPair (before : State) (s : State) (pair : Nat × Word) : State :=
  if h : pair.1 < 64 then madeLive ⟨pair.1, h⟩ before.table[pair.1].state s else s

/-- A pair changed the value or the state of a slot the band watches (R10). -/
def pairMovesBand (before : State) (pair : Nat × Word) : Bool :=
  if h : pair.1 < 64 then
    let x := before.table[pair.1]
    before.bandWatches ⟨pair.1, h⟩ && !(x.state == .live && x.value == some pair.2)
  else false

/-- All pairs of an UPDATE applied as one change of the table, after its ACCEPT (R10). -/
def applyPairs (source : Nat) (pairs : List (Nat × Word)) (s : State) : State :=
  let applied := pairs.foldl (applyPair source) s
  let reported := pairs.foldl (recoverPair s) applied
  let presented := pairs.foldl (presentPair s) reported
  if pairs.any (pairMovesBand s) then evaluateBand presented else presented

/-- A slot re-armed by a KEEP ALIVE from a source (R12). -/
def State.keptAlive (s : State) (source : Nat) (x : Slot) : Slot :=
  if x.state == .live && x.hasDeadline && x.definition.any (fun d => memberOf source d.refresh) then
    { x with monitor := s.armedMonitor x }
  else x

/-- KEEP ALIVE (R12). -/
def ownKeepAlive (l : Link) (p : List Byte) (s : State) : State :=
  checked .keepAlive l [sourceCheck l (natAt p 0)]
    (fun s => accept .keepAlive l (s.setTable (mapVec (s.keptAlive (natAt p 0)) s.table))) s

/-! ## Phase events (section 1.11) -/

/-- A defined slot taken to AWAITING with its run state cleared (R29, R30). -/
def Slot.cleared (lapses : Nat) (x : Slot) : Slot :=
  if x.definition.isSome then
    { Slot.undefined with definition := x.definition, state := .awaiting, lapses := lapses }
  else x

/-- A defined slot at START: AWAITING, its monitor ARMED when it has a deadline (R29). -/
def State.startedSlot (s : State) (x : Slot) : Slot := { x.cleared 0 with monitor := s.armedMonitor x }

/-- Every defined slot is presented from its state and the band lamp is requested OFF (R19, R26, R29). -/
def presentAll (s : State) : State :=
  requestBandLamp false ((indices 64).foldl (fun s i => present i true false s) s)

/-- The table as RUNNING begins (R29), before its presentation. -/
def startTable (s : State) : State := (s.setTable (mapVec s.startedSlot s.table)).setBand .unknown

/-- The table as STOP leaves it: lapse counts kept (R30). -/
def leaveTable (s : State) : State := (s.setTable (mapVec (fun x => x.cleared x.lapses) s.table)).setBand .unknown

/-- Lapse counts set to 0, as RESTART, SLEEP and a wake do (R30). -/
def zeroLapses (s : State) : State := s.setTable (mapVec (fun x => { x with lapses := 0 }) s.table)

end Sys2Proof.Machine
end

