-- ==== Sys2Proof/Machine/Changeover.lean ====
section
/-! DEFINITION. Changeover control (chapter 2), and UPDATE, after which it decides whether a transit has completed and
whether fault 1003 clears. -/

namespace Sys2Proof.Machine

/-! ## Reports and slots in transit -/

/-- The events of CHANGEOVER REPORT, in the order of section 9.6. -/
inductive ChangeoverEvent where
  | started | complete | windowExpired | superseded | aborted
deriving DecidableEq, Repr

def ChangeoverEvent.code : ChangeoverEvent → Nat
  | .started => 0 | .complete => 1 | .windowExpired => 2 | .superseded => 3 | .aborted => 4

/-- CHANGEOVER REPORT of a changeover to the active system (R40); cause 0 LAST SLOT, 1 COMPLETE FLAG, and 0 for the
other events. -/
def changeoverReport (event : ChangeoverEvent) (t : Transit) (elapsed : Time) (slots cause : Nat) (s : State) : State :=
  report ⟨0x52, b8 event.code ++ b8 t.left ++ b8 s.changeover.active ++ b32 elapsed ++ b8 slots ++ b8 cause
    ++ b32 s.now⟩ s

/-- The time a changeover has been in progress (R40). -/
def State.transitTime (s : State) (t : Transit) : Time := s.now - t.start

/-- The aspect slots in TRANSIT, in ascending number. -/
def State.slotsInTransit (s : State) : List (Fin 64) := (indices 64).filter (fun i => s.table[i].state == .transit)

/-- The defined aspect slots, in ascending number. -/
def State.aspectSlots (s : State) : List (Fin 64) := (indices 64).filter (fun i => s.table[i].isAspect)

/-- A slot as it enters TRANSIT (R7). -/
def Slot.inTransit (x : Slot) : Slot :=
  { x with state := .transit, value := none, rank := none, degraded := false, monitor := .suspended }

/-- A slot enters TRANSIT: the clear of its fault 1004 when it was DEGRADED, then its presentation with the changeover
pattern (R42, step 4; the order within the step is log 32). -/
def enterTransit (s : State) (i : Fin 64) : State :=
  let x := s.table[i]
  present i true false (clearDegraded i x.degraded (s.setSlot i x.inTransit))

/-- A slot left in TRANSIT goes to AWAITING with its monitor ARMED, presenting its fallback (R45, step 2). -/
def releaseSlot (s : State) (i : Fin 64) : State :=
  let x := s.table[i]
  present i false false (s.setSlot i { x with state := .awaiting, monitor := s.armedMonitor x })

/-! ## The protocol (section 2.6) -/

/-- The state becomes IDLE and the CHANGEOVER flag clears. -/
def endTransit (s : State) : State :=
  handFlag changeoverBit false (s.setChangeover { s.changeover with transit := none })

/-- Completion by LAST SLOT, when it applies (R44). -/
def completeByLastSlot (s : State) : State :=
  match s.changeover.transit with
  | some t =>
    if s.slotsInTransit = [] then
      markStatus (changeoverReport .complete t (s.transitTime t) 0 0 (endTransit s))
    else s
  | none => s

/-- Completion by COMPLETE FLAG, when it applies (R45). -/
def completeByFlag (source : Nat) (s : State) : State :=
  match s.changeover.transit with
  | some t =>
    if source = s.changeover.active then
      let waiting := s.slotsInTransit
      let released := waiting.foldl releaseSlot s
      markStatus (changeoverReport .complete t (s.transitTime t) waiting.length 1 (endTransit released))
    else s
  | none => s

/-- Fault 1003 is cleared and the incomplete mark with it, when the mark is set. -/
def clearIncomplete (s : State) : State :=
  if s.changeover.incomplete then
    internalClear 1003 190 (s.setChangeover { s.changeover with incomplete := false })
  else s

/-- Every defined aspect slot is LIVE. -/
def State.allAspectsLive (s : State) : Bool := s.aspectSlots.all (fun i => s.table[i].state == .live)

/-- A changeover in progress ends with SUPERSEDED (R48). -/
def supersede (s : State) : State :=
  match s.changeover.transit with
  | some t => changeoverReport .superseded t (s.transitTime t) s.slotsInTransit.length 0 s
  | none => s

/-- A changeover to a target starts (R42). The slots of step 4 are taken in ascending slot number, each with the clear
of its fault 1004 before its presentation: the spec gives them no order and this is the model's choice (log 32). -/
def startChangeover (target window : Nat) (s : State) : State :=
  let ended := supersede s
  let t : Transit := ⟨ended.changeover.active, ended.now, ended.deadlineFrom window⟩
  let begun := ended.setChangeover { ended.changeover with active := target, transit := some t }
  let slots := begun.aspectSlots
  let placed := slots.foldl enterTransit begun
  let flagged := clearIncomplete (handFlag changeoverBit true placed)
  completeByLastSlot (markStatus (changeoverReport .started t 0 slots.length 0 flagged))

/-- The window code an order asks for; FF hex is DEFAULT (R41). -/
def State.windowCode (s : State) (p : List Byte) : Nat := if natAt p 1 = 0xff then s.general.windowCode else natAt p 1

/-- CHANGEOVER (R41). -/
def ownChangeover (l : Link) (p : List Byte) (s : State) : State :=
  checked .changeover l [field 0 (within 1 4 (natAt p 0)), field 1 (natAt p 1 ≤ 15 || natAt p 1 == 0xff)]
    (fun s =>
      let answered := accept .changeover l s
      if natAt p 0 = s.changeover.active then answered
      else conclude (startChangeover (natAt p 0) (s.windowCode p) answered)) s

/-- CHANGEOVER_WINDOW_EXPIRY: the time counter reaches the window expiry time (R46). -/
def effectChangeoverWindowExpiry (s : State) : State :=
  match s.changeover.transit with
  | some t =>
    if s.running && s.reached t.expiry then
      let slots := s.slotsInTransit
      let lapsed := slots.foldl (fun s i => lapse i .window s) s
      let raised := internalRaise 1003 190 (some (BitVec.ofNat 16 slots.length)) lapsed
      let marked := raised.setChangeover { raised.changeover with incomplete := true }
      conclude (markStatus
        (changeoverReport .windowExpired t (t.expiry - t.start) slots.length 0 (endTransit marked)))
    else s
  | none => s

/-- A transit is aborted: the state becomes IDLE with the target active (R50). The CHANGEOVER flag is cleared with the
rest of the condition word. -/
def abortTransit (s : State) : State :=
  s.setChangeover { s.changeover with transit := none, incomplete := false }

/-- CHANGEOVER REPORT ABORTED, when a changeover is in transit (R50). -/
def reportAbort (s : State) : State :=
  match s.changeover.transit with
  | some t => changeoverReport .aborted t (s.transitTime t) s.slotsInTransit.length 0 s
  | none => s

/-- Changeover control at START: the initial system, IDLE, mark clear (R38). -/
def startChangeoverControl (s : State) : State := s.setChangeover ⟨s.general.initialSystem, none, false⟩

/-! ## UPDATE (section 1.4) -/

/-- What changeover control does with an applied UPDATE (R11, R44, R45, R49). -/
def afterUpdate (source : Nat) (complete : Bool) (madeLive : Bool) (s : State) : State :=
  let finished := completeByLastSlot s
  let flagged := if complete then completeByFlag source finished else finished
  if madeLive && flagged.allAspectsLive then clearIncomplete flagged else flagged

/-- A pair of the UPDATE names an aspect slot. -/
def State.namesAspect (s : State) (pairs : List (Nat × Word)) : Bool :=
  pairs.any (fun q => (s.slotNumbered q.1).isAspect)

/-- UPDATE (R8 to R11). -/
def ownUpdate (l : Link) (p : List Byte) (s : State) : State :=
  let source := natAt p 0
  checked .update l (sourceCheck l source :: s.allPairChecks source (pairsIn p))
    (fun s => conclude (afterUpdate source ((byteAt p 1).getLsbD 0) (s.namesAspect (pairsIn p))
      (applyPairs source (pairsIn p) (accept .update l s)))) s

end Sys2Proof.Machine
end

