-- ==== Sys2Proof/Machine/Speed.lean ====
section
/-! DEFINITION. The speed unit (chapter 3): the wheel decoder, the window end with its thirteen stages, the reference
record, the sticky flags and the orders of the unit. -/

namespace Sys2Proof.Machine

/-! ## The decoder (section 3.1) -/

/-- A phase pair's place in the forward order. -/
def pairPlace : Bool × Bool → Nat
  | (false, false) => 0
  | (true, false) => 1
  | (true, true) => 2
  | (false, true) => 3

/-- The places forward from one pair to another: 1 a forward step, 3 a backward step, 2 a quadrature error. -/
def pairAdvance (old new : Bool × Bool) : Nat := (pairPlace new + 4 - pairPlace old) % 4

/-- A sum of steps, held once it has reached 32767 in magnitude (R51). -/
def addStep (steps change : Int) : Int := if steps.natAbs < 32767 then steps + change else steps

/-- A step of a channel in a direction (R51). -/
def Wheel.step (w : Wheel) (s : State) (d : Direction) : Wheel :=
  { w with
    steps := addStep w.steps (if d = .forward then 1 else -1)
    stepFlag := true
    lastStep := some s.clock
    lastDirection := some d
    lastInterval := if w.lastDirection = some d then w.lastStep.map s.elapsed else none }

/-- The number of a channel's QUAD ERROR SEEN flag (section 3.9). -/
def quadFlag : WheelId → Nat | .a => 4 | .b => 8

/-- A channel of the speed unit replaced. -/
def SpeedUnit.setWheel (u : SpeedUnit) : WheelId → Wheel → SpeedUnit
  | .a, w => { u with wheelA := w }
  | .b, w => { u with wheelB := w }

/-- The pair now on a channel's inputs is decoded against the pair last taken (R51). -/
def decodePair (id : WheelId) (new : Bool × Bool) (s : State) : State :=
  let w := s.wheel id
  let taken := { w with lastPair := some new }
  match w.lastPair with
  | none => s.setSpeed (s.speed.setWheel id taken)
  | some old =>
    match pairAdvance old new with
    | 1 => s.setSpeed (s.speed.setWheel id (taken.step s .forward))
    | 3 => s.setSpeed (s.speed.setWheel id (taken.step s .backward))
    | 2 =>
      let u := s.speed.setWheel id { taken with errors := saturate 255 w.errors }
      s.setSpeed { u with sticky := setSticky (quadFlag id) true u.sticky }
    | _ => s

/-- The levels of the wheel phase inputs. -/
def setPins (id : WheelId) (new : Bool × Bool) (s : State) : State :=
  match id with
  | .a => { s with wheelPins := { s.wheelPins with a := new } }
  | .b => { s with wheelPins := { s.wheelPins with b := new } }

/-- WHEEL_PHASE_CHANGE: decoded in RUNNING alone (R51). -/
def effectWheelPhaseChange (id : WheelId) (new : Bool × Bool) (s : State) : State :=
  let moved := setPins id new s
  if moved.running && !moved.inReset then decodePair id new moved else moved

/-! ## Speeds and directions (R57, R58) -/

/-- π to forty decimal places, as a whole number of its last places (log 10). -/
def piScaled : Nat := 31415926535897932384626433832795028841972

/-- One, in the same places. -/
def piScale : Nat := 10 ^ 40

/-- The nearest whole number to a quotient, halves up, held at 4000 (R57). -/
def roundedSpeed (num den : Nat) : Nat := min 4000 ((2 * num + den) / (2 * den))

/-- 36 times the step distance, as a quotient: 9 π diameter / pulses (section 3.2). -/
def SpeedSettings.distanceNum (c : SpeedSettings) : Nat := 9 * piScaled * c.wheelDiameter
def SpeedSettings.distanceDen (c : SpeedSettings) : Nat := piScale * c.pulses

/-- The time the period method divides by, in microseconds, when its condition holds (R57). -/
def State.periodTime (s : State) (w : Wheel) : Option Nat :=
  match w.lastStep, w.lastInterval with
  | some t, some interval =>
    if s.elapsed t ≤ s.speed.settings.standstillTime * 1000 then some (max interval (s.elapsed t)) else none
  | _, _ => none

/-- The speed and direction of a channel at a window end (R57, R58); `free` reads the free value of log 10. -/
def State.measured (s : State) (w : Wheel) (free : Nat) : Nat × Direction :=
  let c := s.speed.settings
  if 8 ≤ w.steps.natAbs then
    (roundedSpeed (c.distanceNum * w.steps.natAbs) (c.distanceDen * c.windowLength),
     if 0 < w.steps then .forward else .backward)
  else
    match s.periodTime w with
    | some 0 => ((Config.zeroIntervalSpeed free).val, w.lastDirection.getD .unknown)
    | some t => (roundedSpeed (c.distanceNum * 1000) (c.distanceDen * t), w.lastDirection.getD .unknown)
    | none => (0, .unknown)

/-! ## Channel status (R59, R60) -/

/-- A speed differs from the previous one by more than the accel allowance (R59). -/
def SpeedSettings.exceedsAllowance (c : SpeedSettings) (higher lower : Nat) : Bool :=
  c.accelLimit * c.windowLength < (higher - lower) * 1000

/-- The status of a channel by tests 1, 3, 4 and 5 of R59, which do not look at the other channel. -/
def SpeedSettings.ownStatus (c : SpeedSettings) (w : Wheel) (speed : Nat) : WheelStatus :=
  if 4 ≤ w.errors then .failed
  else
    match w.previous with
    | some p => if c.exceedsAllowance speed p then .slip else if c.exceedsAllowance p speed then .slide else .good
    | none => .good

/-- The status of a channel (R59), from the other channel's own status and speed. -/
def SpeedSettings.statusOf (c : SpeedSettings) (w : Wheel) (speed : Nat) (other : Wheel) (otherSpeed : Nat) :
    WheelStatus :=
  if 4 ≤ w.errors then .failed
  else if !w.stepFlag && c.ownStatus other otherSpeed == .good && 50 ≤ otherSpeed then .silent
  else c.ownStatus w speed

/-- The origin of a channel in the fault list. -/
def wheelOrigin : WheelId → Nat | .a => 170 | .b => 171

/-- The sensor-loss state of a channel with its status decided; `stepped` is the flag of the window that ended (R60). -/
def judgeSensor (id : WheelId) (stepped : Bool) (s : State) : State :=
  let w := s.wheel id
  let put (w : Wheel) : State := s.setSpeed (s.speed.setWheel id w)
  if w.status = some .silent then
    if w.silentRun = 4 then internalRaise 1001 (wheelOrigin id) none (put { w with silentRun := 5, lost := true })
    else put { w with silentRun := min 5 (w.silentRun + 1) }
  else if stepped && w.lost then internalClear 1001 (wheelOrigin id) (put { w with silentRun := 0, lost := false })
  else put { w with silentRun := 0 }

/-! ## Agreement (R61, R62, R67) -/

/-- The difference of two speeds. -/
def difference (a b : Nat) : Nat := max a b - min a b

/-- The difference of two speeds exceeds the tolerance (R61). -/
def SpeedSettings.disagreeing (c : SpeedSettings) (a b : Nat) : Bool :=
  max (c.absoluteTolerance * 200) (max a b * c.relativeTolerance) < difference a b * 200

/-- What an update of a state of agreement asks of the fault list. -/
inductive Verdict where
  | nothing | raise | clear
deriving DecidableEq, Repr

/-- A state of agreement after a comparison (R62). -/
def Agreement.compared (g : Agreement) (confirm : Nat) (mismatch : Bool) : Agreement × Verdict :=
  match g.accord, mismatch with
  | .agree, true =>
    if confirm ≤ g.mismatchRun + 1 then (⟨.disagree, 0, 0⟩, .raise)
    else ({ g with mismatchRun := g.mismatchRun + 1 }, .nothing)
  | .agree, false => ({ g with mismatchRun := 0 }, .nothing)
  | .disagree, false =>
    if confirm ≤ g.agreeRun + 1 then (⟨.agree, 0, 0⟩, .clear)
    else ({ g with agreeRun := g.agreeRun + 1 }, .nothing)
  | .disagree, true => ({ g with agreeRun := 0 }, .nothing)

/-- The raise or clear of a verdict, with origin 172. -/
def applyVerdict (code : Nat) (v : Verdict) (parameter : Nat) (s : State) : State :=
  match v with
  | .nothing => s
  | .raise => internalRaise code 172 (some (BitVec.ofNat 16 parameter)) s
  | .clear => internalClear code 172 s

/-! ## What a window end has found -/

/-- One channel at a window end: the window's steps, flag and errors, and its results. -/
structure ChannelWindow where
  steps : Int
  stepFlag : Bool
  errors : Nat
  speed : Nat
  direction : Direction
  status : WheelStatus
deriving DecidableEq, Repr

/-- Both channels GOOD: a comparison window (R61). -/
def comparable (a b : ChannelWindow) : Bool := a.status == .good && b.status == .good

/-- The directions are FORWARD and BACKWARD, one each. -/
def opposite : Direction → Direction → Bool
  | .forward, .backward | .backward, .forward => true
  | _, _ => false

/-- A comparison window is MISMATCH (R61). -/
def SpeedSettings.mismatch (c : SpeedSettings) (a b : ChannelWindow) : Bool :=
  opposite a.direction b.direction || c.disagreeing a.speed b.speed

/-- Stages 2 to 4, without the raises: both windows closed, speeds, directions and statuses (R52, R57 to R59). -/
def State.channelWindows (s : State) : ChannelWindow × ChannelWindow :=
  let c := s.speed.settings
  let a := s.speed.wheelA
  let b := s.speed.wheelB
  let ma := s.measured a s.fresh
  let mb := s.measured b (s.fresh + 1)
  (⟨a.steps, a.stepFlag, a.errors, ma.1, ma.2, c.statusOf a ma.1 b mb.1⟩,
   ⟨b.steps, b.stepFlag, b.errors, mb.1, mb.2, c.statusOf b mb.1 a ma.1⟩)

/-- A channel with its window closed and its results held (R52). -/
def Wheel.closed (w : Wheel) (r : ChannelWindow) : Wheel :=
  { w with steps := 0, stepFlag := false, errors := 0
           speed := some r.speed, status := some r.status, direction := some r.direction }

/-- Stage 4's sensor-loss updates follow stages 2 and 3, channel A before channel B (R56, R60). -/
def closeWindows (r : ChannelWindow × ChannelWindow) (s : State) : State :=
  let u := { s.speed with wheelA := s.speed.wheelA.closed r.1, wheelB := s.speed.wheelB.closed r.2 }
  let held := { s with speed := u, fresh := s.fresh + 2 }
  judgeSensor .b r.2.stepFlag (judgeSensor .a r.1.stepFlag held)

/-- Stage 5: the comparison of the channels and the disagreement state (R61, R62). -/
def compareChannels (r : ChannelWindow × ChannelWindow) (s : State) : State :=
  if comparable r.1 r.2 then
    let c := s.speed.settings
    let g := s.speed.disagreement.compared c.confirmCount (c.mismatch r.1 r.2)
    applyVerdict 1000 g.2 (difference r.1.speed r.2.speed) (s.setSpeed { s.speed with disagreement := g.1 })
  else s

/-! ## The reference and the selection (R63 to R68) -/

/-- The judgement of the reference, in the order of R160's codes. -/
inductive Freshness where
  | fresh | stale | absent
deriving DecidableEq, Repr

def Freshness.code : Freshness → Nat | .fresh => 0 | .stale => 1 | .absent => 2

/-- The judgement of the reference record now (R64). -/
def State.referenceNow (s : State) : Freshness :=
  match s.speed.reference with
  | none => .absent
  | some r =>
    if !r.stale && timeSince s.now r.arrival < deadlineMs s.speed.settings.referenceDeadline then .fresh else .stale

/-- A record judged stale at a window end keeps the judgement (R64). -/
def judgeReference (s : State) : State :=
  match s.speed.reference, s.referenceNow with
  | some r, .stale => s.setSpeed { s.speed with reference := some { r with stale := true } }
  | _, _ => s

/-- The fresh reference, when there is one. -/
def State.freshReference (s : State) : Option Reference :=
  if s.referenceNow = .fresh then s.speed.reference else none

/-- The fresh reference of quality GOOD. -/
def State.goodReference (s : State) : Option Reference := s.freshReference.filter (fun r => r.quality == .good)

/-- A reference as a candidate; NONE without one. -/
def referenceCandidate : Option Reference → Selection × Option Nat
  | some r => (.reference, some r.speed)
  | none => (.none, none)

/-- HOLD or NONE (R66). -/
def State.heldCandidate (s : State) : Selection × Option Nat :=
  match s.speed.displayed with
  | some v => if s.speed.holdCount < s.speed.settings.holdLimit then (.hold, some v) else (.none, none)
  | none => (.none, none)

/-- Stage 6: the candidate (R65). -/
def State.candidate (s : State) (r : ChannelWindow × ChannelWindow) : Selection × Option Nat :=
  if s.speed.disagreement.accord = .disagree then referenceCandidate s.goodReference
  else if comparable r.1 r.2 then (.dual, some ((r.1.speed + r.2.speed + 1) / 2))
  else if r.1.status = .good then (.a, some r.1.speed)
  else if r.2.status = .good then (.b, some r.2.speed)
  else
    match s.freshReference with
    | some f => (.reference, some f.speed)
    | none => s.heldCandidate

/-- The candidate is taken from the channels. -/
def Selection.fromChannels : Selection → Bool
  | .dual | .a | .b => true
  | .reference | .hold | .none => false

/-- The speeds of a reference comparison window: candidate and reference (R67). -/
def State.referenceComparison (s : State) (c : Selection × Option Nat) : Option (Nat × Nat) :=
  match c.2, s.goodReference with
  | some v, some f => if c.1.fromChannels then some (v, f.speed) else none
  | _, _ => none

/-- The window is REFERENCE DISAGREEING (R67). -/
def SpeedSettings.referenceDisagreeing (c : SpeedSettings) : Option (Nat × Nat) → Bool
  | some (v, f) => c.disagreeing v f
  | none => false

/-- Stage 7: the reference check (R67). -/
def checkReference (comparison : Option (Nat × Nat)) (s : State) : State :=
  match comparison with
  | some (v, f) =>
    let c := s.speed.settings
    let g := s.speed.referenceCheck.compared c.confirmCount (c.disagreeing v f)
    applyVerdict 1002 g.2 (difference v f) (s.setSpeed { s.speed with referenceCheck := g.1 })
  | none => s

/-- The selection and displayed speed of the window (R68). -/
def State.selected (s : State) (candidate : Selection × Option Nat) : Selection × Option Nat :=
  if s.speed.settings.referenceAction = .withdraw ∧ s.speed.referenceCheck.accord = .disagree then (.none, none)
  else candidate

/-- Stage 8: the selection is held and slot 0 is written (R66, R68). -/
def writeSelection (chosen : Selection × Option Nat) (s : State) : State :=
  writeSlotZero chosen.2 (s.setSpeed { s.speed with
    selection := chosen.1, displayed := chosen.2
    holdCount := if chosen.1 = .hold then s.speed.holdCount + 1 else 0 })

/-! ## Direction, standstill, flags and the report (R69 to R73) -/

/-- The common direction of two channels (R69). -/
def commonDirection (a b : Direction) : Direction :=
  if a = b then a else if a = .unknown then b else if b = .unknown then a else .unknown

/-- The displayed direction (R69). -/
def directionOf (selection : Selection) (r : ChannelWindow × ChannelWindow) : Direction :=
  match selection with
  | .a => r.1.direction
  | .b => r.2.direction
  | .dual => commonDirection r.1.direction r.2.direction
  | .reference | .hold | .none => .unknown

/-- Stage 9: the displayed direction, each change marked (R69). -/
def showDirection (d : Direction) (s : State) : State :=
  if d = s.speed.direction then s else markStatus (s.setSpeed { s.speed with direction := d })

/-- The low run and the STANDSTILL flag after a window (R70). -/
def standstillAfter (displayed : Option Nat) (lowRun : Nat) (standing : Bool) : Nat × Bool :=
  match displayed with
  | some v =>
    if v < 5 then (min 3 (lowRun + 1), standing || decide (2 ≤ lowRun))
    else if v < 10 then (0, standing)
    else (0, false)
  | none => (0, false)

/-- Stage 10: the STANDSTILL flag (R70). -/
def updateStandstill (displayed : Option Nat) (s : State) : State :=
  let next := standstillAfter displayed s.speed.lowRun (s.condition standstillBit)
  handFlag standstillBit next.2 (s.setSpeed { s.speed with lowRun := next.1 })

/-- Stage 11: the sticky flags seen in the window (section 3.9). -/
def stickyAfter (c : SpeedSettings) (r : ChannelWindow × ChannelWindow) (comparison : Option (Nat × Nat))
    (sticky : Word) : Word :=
  setSticky 1 (comparable r.1 r.2 && c.mismatch r.1 r.2)
    (setSticky 2 (r.1.status == .slip) (setSticky 3 (r.1.status == .slide) (setSticky 5 (r.1.status == .silent)
      (setSticky 6 (r.2.status == .slip) (setSticky 7 (r.2.status == .slide) (setSticky 9 (r.2.status == .silent)
        (setSticky 10 (c.referenceDisagreeing comparison) sticky)))))))

/-- Stages 11 and 12, and the count of window ends: flags set, previous speeds stored. -/
def storeWindow (r : ChannelWindow × ChannelWindow) (comparison : Option (Nat × Nat)) (s : State) : State :=
  s.setSpeed { s.speed with
    sticky := stickyAfter s.speed.settings r comparison s.speed.sticky
    wheelA := { s.speed.wheelA with previous := some r.1.speed }
    wheelB := { s.speed.wheelB with previous := some r.2.speed }
    windowCount := s.speed.windowCount + 1 }

/-- The bytes of one channel in SPEED REPORT (R160). -/
def ChannelWindow.bytes (r : ChannelWindow) : List Byte :=
  n16 r.speed ++ b8 r.status.code ++ b8 r.direction.code ++ b16 (BitVec.ofInt 16 r.steps) ++ b8 r.errors

/-- SPEED REPORT (R73, R160). -/
def speedReport (r : ChannelWindow × ChannelWindow) (s : State) : State :=
  let u := s.speed
  report ⟨0x54, b32 s.now ++ r.1.bytes ++ r.2.bytes ++ optional 2 (u.displayed.map n16) ++ b8 u.selection.code
    ++ b8 u.direction.code ++ b8 u.disagreement.accord.code ++ b8 u.referenceCheck.accord.code
    ++ b8 s.referenceNow.code ++ n16 ((u.reference.map Reference.speed).getD 0)
    ++ b8 ((u.reference.map (fun f => f.quality.code)).getD 0) ++ flag (s.condition standstillBit)
    ++ b16 u.sticky ++ b8 (u.windowCount % 256)⟩ s

/-- A SPEED REPORT is due at this window end (R73). -/
def SpeedUnit.reportDue (u : SpeedUnit) : Bool :=
  u.settings.reportInterval != 0 && u.windowCount % u.settings.reportInterval == 0

/-- Stage 13 (R73). -/
def reportWindow (r : ChannelWindow × ChannelWindow) (s : State) : State :=
  if s.speed.reportDue then speedReport r s else s

/-- The pending wheel parameters replace the wheel parameters (R54). -/
def applyPendingWheel (s : State) : State :=
  match s.speed.pendingWheel with
  | some (diameter, pulses) =>
    s.setSpeed { s.speed with
      settings := { s.speed.settings with wheelDiameter := diameter, pulses := pulses }, pendingWheel := none }
  | none => s

/-- A window end: its thirteen stages in order (R56). -/
def windowEnds (s : State) : State :=
  let begun := applyPendingWheel s
  let r := begun.channelWindows
  let judged := judgeReference (compareChannels r (closeWindows r begun))
  let candidate := judged.candidate r
  let comparison := judged.referenceComparison candidate
  let checked := checkReference comparison judged
  let chosen := checked.selected candidate
  let shown := showDirection (directionOf chosen.1 r) (writeSelection chosen checked)
  reportWindow r (storeWindow r comparison (updateStandstill chosen.2 shown))

/-- WINDOW_END: the time counter reaches the window end, and the next is set from the window end's own time (R55). -/
def effectWindowEnd (s : State) : State :=
  match s.speed.windowEnd with
  | some t =>
    if s.running && s.reached t then
      conclude (windowEnds (s.setSpeed { s.speed with
        windowEnd := some (plusMs t s.speed.settings.windowLength) }))
    else s
  | none => s

/-! ## Orders of the speed unit -/

/-- The checks of the wheel parameters (section 3.2). -/
def diameterFits (n : Nat) : Bool := within 800 1300 n
def pulsesFit (n : Nat) : Bool := within 20 400 n

/-- The checks of SET SPEED PARAMETERS (R53). -/
def speedParameterChecks (p : List Byte) : List Check :=
  [field 1 ([100, 150, 200, 250, 300, 400, 500].contains (nat16At p 0)), field 2 (within 1000 5000 (nat16At p 2)),
   field 3 (within 5 50 (natAt p 4)), field 4 (natAt p 5 ≤ 50), field 5 (natAt p 6 ≤ 20),
   field 6 (within 1 15 (natAt p 7)), field 7 (within 1 10 (natAt p 8)), field 8 (natAt p 9 ≤ 15),
   field 9 (isFlag (natAt p 10)), field 10 (natAt p 11 ≤ 10), field 11 (diameterFits (nat16At p 12)),
   field 12 (pulsesFit (nat16At p 14))]

/-- The settings a SET SPEED PARAMETERS carries. -/
def speedSettingsIn (p : List Byte) : SpeedSettings :=
  ⟨nat16At p 0, nat16At p 2, natAt p 4, natAt p 5, natAt p 6, natAt p 7, natAt p 8, natAt p 9,
   if natAt p 10 = 0 then .report else .withdraw, natAt p 11, nat16At p 12, nat16At p 14⟩

/-- SET SPEED PARAMETERS (R53). -/
def ownSetSpeedParameters (l : Link) (p : List Byte) (s : State) : State :=
  checked .setSpeedParameters l (speedParameterChecks p)
    (fun s => accept .setSpeedParameters l (s.setSpeed { s.speed with settings := speedSettingsIn p })) s

/-- SET WHEEL (R54). -/
def ownSetWheel (l : Link) (p : List Byte) (s : State) : State :=
  let diameter := nat16At p 0
  let pulses := nat16At p 2
  checked .setWheel l [field 1 (diameterFits diameter), field 2 (pulsesFit pulses)]
    (fun s =>
      if s.running then
        if s.condition standstillBit then
          accept .setWheel l (s.setSpeed { s.speed with pendingWheel := some (diameter, pulses) })
        else refuse .setWheel l .notAtStandstill 0 s
      else accept .setWheel l (s.setSpeed { s.speed with
        settings := { s.speed.settings with wheelDiameter := diameter, pulses := pulses } })) s

/-- REFERENCE SPEED (R63). -/
def ownReferenceSpeed (l : Link) (p : List Byte) (s : State) : State :=
  checked .referenceSpeed l [sourceCheck l (natAt p 0), field 1 (nat16At p 1 ≤ 4000), field 2 (isFlag (natAt p 3))]
    (fun s => accept .referenceSpeed l (s.setSpeed { s.speed with
      reference := some ⟨natAt p 0, nat16At p 1, if natAt p 3 = 0 then .good else .degraded, s.now, false⟩ })) s

/-- CLEAR SPEED FLAGS (R72). -/
def ownClearSpeedFlags (l : Link) (p : List Byte) (s : State) : State :=
  checked .clearSpeedFlags l ((List.range p.length).map (fun i => field i (within 1 10 (natAt p i))))
    (fun s => accept .clearSpeedFlags l (s.setSpeed { s.speed with
      sticky := clearSticky (p.map BitVec.toNat) s.speed.sticky })) s

/-! ## Phase events (R75) -/

/-- The speed unit's run state cleared, its settings with pending values applied and its sticky flags kept; a channel
takes a pair as the pair last taken. -/
def SpeedUnit.restarted (u : SpeedUnit) (pairA pairB : Option (Bool × Bool)) : SpeedUnit :=
  { SpeedUnit.cleared with
    settings := u.settings, sticky := u.sticky
    wheelA := { Wheel.cleared with lastPair := pairA }, wheelB := { Wheel.cleared with lastPair := pairB } }

/-- The speed unit at START (R55, R75). -/
def startSpeed (s : State) : State :=
  s.setSpeed { s.speed.restarted (some s.wheelPins.a) (some s.wheelPins.b) with
    windowEnd := some (plusMs s.now s.speed.settings.windowLength) }

/-- The speed unit as RUNNING is left: pending values applied, run state cleared (R54, R75). -/
def leaveSpeed (s : State) : State :=
  let applied := applyPendingWheel s
  applied.setSpeed (applied.speed.restarted none none)

/-- The sticky flags cleared (R71). -/
def clearStickyFlags (s : State) : State := s.setSpeed { s.speed with sticky := 0 }

end Sys2Proof.Machine
end

