-- ==== Sys2Proof/Machine/Phases.lean ====
section
/-! DEFINITION. Phase control (chapter 10): general settings, START, STOP, RESTART, SLEEP, DORMANT and wake, the supply
monitor, the desk-dark line, and the full reset. -/

namespace Sys2Proof.Machine

/-! ## SET GENERAL (R161, R163) -/

/-- The checks of SET GENERAL, in field order. -/
def setGeneralChecks (p : List Byte) : List Check :=
  [field 2 (natAt p 1 ≤ 15), field 3 (isFlag (natAt p 2)), field 4 (natAt p 3 ≤ 1),
   field 5 (within 1000 4000 (nat16At p 4)), field 6 (within 1 4 (natAt p 6)), field 7 (natAt p 7 ≤ 63),
   field 8 (natAt p 8 ≤ 100), field 9 (within 10 50 (natAt p 9)),
   field 10 (natAt p 10 ≤ 23 || natAt p 10 == 0xff),
   field 11 (natAt p 10 == 0xff || within 1 2 (natAt p 11)), field 12 (isFlag (natAt p 12)),
   field 13 (within 1 30 (natAt p 13))]

/-- The permitted-speed slot carried as a number; 0 is none. -/
def slotChoice (n : Nat) : Option (Fin 64) := if n = 0 then none else if h : n < 64 then some ⟨n, h⟩ else none

/-- The band lamp position carried as a number, with its colour; FF hex is none. -/
def lampChoice (position colour : Nat) : Option (Fin 24 × Colour) :=
  if h : position < 24 then some (⟨position, h⟩, colourOf colour) else none

/-- The thirteen settings a SET GENERAL carries. -/
def generalIn (p : List Byte) : General :=
  ⟨natAt p 0, natAt p 1, natAt p 2 == 1, if natAt p 3 = 0 then .retain else .reset, nat16At p 4, natAt p 6,
   slotChoice (natAt p 7), natAt p 8, natAt p 9, lampChoice (natAt p 10) (natAt p 11), natAt p 12 == 1, natAt p 13⟩

/-- SET GENERAL. -/
def ownSetGeneral (l : Link) (p : List Byte) (s : State) : State :=
  checked .setGeneral l (setGeneralChecks p) (fun s => accept .setGeneral l (s.setGeneral (generalIn p))) s

/-! ## The START checks (R164) -/

/-- The slots 1 to 63, in ascending number. -/
def userSlots : List (Fin 64) := (indices 64).filter (fun i => i.val != 0)

/-- Check 2 fails at a slot: an ASPECT fallback that system 0 does not hold. -/
def State.fallbackMissing (s : State) (i : Fin 64) : Bool :=
  match s.table[i].definition with
  | some d =>
    match d.body with
    | .aspect fallback _ _ _ => (findAspect 0 fallback s.aspects).isNone
    | .number .. | .state .. => false
  | none => false

/-- The positions of the bindings, as slot number (64 for the band lamp) and positions, in the order of check 3. -/
def State.bindings (s : State) : List (Nat × List Nat) :=
  userSlots.map (fun i => (i.val, s.table[i].positions))
    ++ [(64, (s.general.bandLamp.map (fun b => b.1.val)).toList)]

/-- The first binding at which check 3 fails, given the channels bound before it. -/
def State.bindingFault (s : State) : List Nat → List (Nat × List Nat) → Option Nat
  | _, [] => none
  | used, (object, positions) :: rest =>
    let channels := positions.flatMap s.channelsOf
    if positions.any s.isUpperOfBicolour || channels.any used.contains then some object
    else s.bindingFault (channels ++ used) rest

/-- Check 4 fails at a slot: a STATE fallback of 4 to 6 on a position of a SINGLE pair. -/
def State.fallbackUnsuited (s : State) (i : Fin 64) : Bool :=
  match s.table[i].definition with
  | some d =>
    match d.body with
    | .state fallback position => within 4 6 fallback && !s.isBicolour position
    | .number .. | .aspect .. => false
  | none => false

/-- The permitted-speed slot at which check 5 fails. -/
def State.permittedFault (s : State) : Option Nat :=
  match s.general.permittedSlot with
  | some i => if s.table[i].isNumber then none else some i.val
  | none => none

/-- A panel field bound by two slots or more. -/
def State.fieldClash (s : State) (f : Nat) : Bool :=
  2 ≤ (s.table.toList.filter (fun x => x.panelField.any (fun b => b.1 == f))).length

/-- The first START check that fails, with the number of its object. -/
def State.startFault (s : State) : Option (Nat × Nat) :=
  if (findAspect 0 0 s.aspects).isNone then some (1, 0)
  else
    match userSlots.find? s.fallbackMissing with
    | some i => some (2, i.val)
    | none =>
      match s.bindingFault [] s.bindings with
      | some object => some (3, object)
      | none =>
        match userSlots.find? s.fallbackUnsuited with
        | some i => some (4, i.val)
        | none =>
          match s.permittedFault with
          | some i => some (5, i)
          | none =>
            if !within 1 4 s.general.initialSystem then some (6, s.general.initialSystem)
            else ((List.range 16).find? s.fieldClash).map (fun f => (7, f))

/-! ## START (R164) -/

/-- The fault list at START (R103). -/
def startList (s : State) : State :=
  s.setFaults { s.faults with
    entries := [], cursor := 0, moreFaults := false, demand := false
    conditions := conditionsAtStart s.faults.conditions }

/-- The lamp field's run state cleared (R123). -/
def clearLamps (s : State) : State :=
  s.setLamps { s.lamps with
    slowGenerator := { s.lamps.slowGenerator with period := none }
    fastGenerator := { s.lamps.fastGenerator with period := none }
    positions := .replicate 24 .cleared, drives := .replicate 12 .cleared, channels := .replicate 24 .cleared
    output := .quiet, test := none }

/-- The meter and the chime at their cleared values (R126, R131). -/
def clearDesk (s : State) : State := (s.setMeter .cleared).setChime .cleared

/-- A generator begins its first period now, which is a period start (R106). -/
def beginGenerator (g : Generator) (s : State) : State :=
  takeUpWaiting g (setGenerator g ((s.generator g).beginPeriod s.clock) s)

/-- The output state START chooses (R117). -/
def chooseOutput (s : State) : State := setOutput (if s.darkened then .dark else .lit) s

/-- Fault 1010 is raised as RUNNING begins in DIP (R168). -/
def raiseDip (s : State) : State :=
  if s.supply.state = .dip then internalRaise 1010 200 none (s.setSupply { s.supply with raised := true }) else s

/-- Every block takes its START values. -/
def startBlocks (s : State) : State :=
  setMonitors (.begun s.clock) (startKeys (clearDesk (clearLamps (startList (startSpeed
    (startChangeoverControl (startTable s)))))))

/-- What an accepted START does after its ACCEPT. -/
def startEffect (s : State) : State :=
  let presented := presentAll (startBlocks (s.setPhase .running))
  let lamps := chooseOutput (beginGenerator .fast (beginGenerator .slow presented))
  conclude (beginRefresh (markAll (raiseDip (outputReport .start .order lamps))))

/-- START. -/
def ownStart (l : Link) (s : State) : State :=
  match s.startFault with
  | some (check, object) =>
    queueFrame l (refuseFrame OrderKind.start.code .configInvalid 0 check object) s
  | none => startEffect (accept .start l s)

/-! ## Leaving RUNNING (R165, R166) -/

/-- The condition word as RUNNING is left (R79). -/
def leaveConditions (s : State) : State :=
  s.setFaults { s.faults with conditions := conditionsOnLeaving s.faults.conditions }

/-- Every block leaves RUNNING; the phase is CONFIGURING. -/
def leaveBlocks (s : State) : State :=
  let emptied := leaveConditions (emptyList (leaveSpeed (abortTransit (leaveTable s))))
  let quiet := setMonitors .stopped (leaveKeys (clearDesk (clearLamps emptied)))
  markStatus ((quiet.setSupply { quiet.supply with raised := false }).setPhase .configuring)

/-- STOP (R165). -/
def ownStop (l : Link) (s : State) : State :=
  conclude (beginRefresh (markAll (leaveBlocks (reportAbort (accept .stop l s)))))

/-- What RESTART and a wake in RETAIN mode clear beside the run state: counters, lost counts, dropped count, sticky
flags, lapse counts, and the dim state to DAY (R165, R167). -/
def clearRecords (s : State) : State :=
  let zeroed := zeroLapses (clearStickyFlags (zeroCounters s))
  (zeroed.setFaults { zeroed.faults with dropped := 0 }).setLamps { zeroed.lamps with dim := .day }

/-- RESTART (R165). -/
def ownRestart (l : Link) (s : State) : State :=
  let drained := { s with lp0 := s.lp0.drained, lp1 := s.lp1.drained }
  conclude (beginRefresh (markAll (clearRecords (leaveBlocks (accept .restart l drained)))))

/-! ## SLEEP and DORMANT (R166) -/

/-- The receive line of a link is low as SLEEP is taken. -/
def State.lineActive (s : State) (lines : Lines) : Link → Bool
  | .lp0 => lines.lp0Low || s.lp0.lineLow
  | .lp1 => s.lp1.settings.enabled && (lines.lp1Low || s.lp1.lineLow)

/-- A reply queued on the port is placed, not discarded (R152). -/
def Port.placesReply (p : Port) : Bool :=
  p.queue.length < Config.queueCapacity || (dropNewestReport p.queue).isSome

/-- Both receivers are held and LP1 keeps its frame in transmission alone (R166, points 3 and 4); nothing waits when
the ACCEPT itself was discarded (log 16). -/
def holdReceivers (placed : Bool) (s : State) : State :=
  let drained := { s with lp1 := s.lp1.drained }
  if placed then
    { drained with
      lp0 := drained.lp0.hunting, lp1 := drained.lp1.hunting, sleep := { drained.sleep with waiting := true } }
  else drained

/-- LINE ACTIVE with the number of a link whose receive line is low, 0 when both are (R156, R166). -/
def refuseActive (l : Link) (link : Nat) (s : State) : State :=
  queueFrame l (refuseFrame OrderKind.sleep.code .lineActive 0 0 link) s

/-- SLEEP (R166). -/
def ownSleep (l : Link) (lines : Lines) (s : State) : State :=
  match s.lineActive lines .lp0, s.lineActive lines .lp1 with
  | true, _ => refuseActive l 0 s
  | false, true => refuseActive l 1 s
  | false, false =>
    let answered := accept .sleep l s
    let left := if s.running then beginRefresh (leaveBlocks answered) else answered
    conclude (holdReceivers (s.port l).placesReply (zeroLapses left))

/-- The SLEEP reply has been sent: the phase becomes DORMANT (R166). A panel frame still in transmission goes on to its end
in DORMANT, and the panel line is idle from there: the model's choice (log 37), since R166 has the panel line idle in
DORMANT and R135 has the frame completed. -/
def enterDormant (s : State) : State :=
  let held := { s with
    phase := .dormant, sleep := ⟨false, some s.clock⟩, lp0 := s.lp0.hunting, lp1 := s.lp1.hunting }
  markStatus (held.setPanel { held.panel with refresh := none })

/-- FRAME_SENT: the frame in transmission leaves the queue and the next begins (R152); an empty queue lets pending
settings be taken up (R146) and, on LP0 while the SLEEP reply waits, DORMANT be entered (R166). -/
def effectFrameSent (l : Link) (s : State) : State :=
  if s.frameOver l then
    let sent := takeUp l (s.setPort l { s.port l with queue := (s.port l).queue.tail, txStart := s.clock })
    if l = .lp0 ∧ s.sleep.waiting = true ∧ (sent.port l).queue = [] then conclude (enterDormant sent) else sent
  else s

/-- LINK_INTERVAL_EXPIRY (R150). -/
def effectLinkIntervalExpiry (l : Link) (s : State) : State :=
  if s.intervalDue l then kickPanel (intervalEnds l s) else s

/-! ## Phase reports (R162) -/

/-- The causes of PHASE REPORT, in their coding order. -/
inductive PhaseCause where
  | resetLine | supplyLow | wakeRetain | wakeReset
deriving DecidableEq, Repr

def PhaseCause.code : PhaseCause → Nat | .resetLine => 0 | .supplyLow => 1 | .wakeRetain => 2 | .wakeReset => 3

/-- The cause of a reset in a PHASE REPORT. -/
def PhaseCause.ofReset : ResetCause → PhaseCause | .resetLine => .resetLine | .supplyLow => .supplyLow

/-- PHASE REPORT. -/
def phaseReport (cause : PhaseCause) (wake : Nat) (s : State) : State :=
  report ⟨0x50, b8 s.phase.code ++ b8 cause.code ++ b8 wake ++ b32 s.now⟩ s

/-! ## Full reset (R168) -/

/-- The part at its full-reset values, with its pins, the free-value counter and the waiting commands as they are. -/
def State.asCleared (s : State) : State :=
  { State.cleared with
    supply := { State.cleared.supply with below := s.supply.below }
    resets := s.resets
    lp0 := { Port.cleared with lineLow := s.lp0.lineLow }
    lp1 := { Port.cleared with lineLow := s.lp1.lineLow }
    deskDark := ⟨s.deskDark.asserted, 0⟩
    wheelPins := s.wheelPins, fresh := s.fresh, pending := s.pending }

/-- The part as a full reset ends: bytes begun before it are not taken, the refresh timer begins a period, the PHASE
REPORT is queued and the status item is sent. -/
def releaseReset (cause : PhaseCause) (wake : Nat) (s : State) : State :=
  let clear := s.asCleared
  let listening := { clear with
    lp0 := { clear.lp0 with notBefore := some 0 }, lp1 := { clear.lp1 with notBefore := some 0 } }
  conclude (phaseReport cause wake (beginRefresh listening))

/-- The other condition of a full reset is present. -/
def State.otherCondition (s : State) : ResetCause → Bool
  | .resetLine => s.resets.supplyLow
  | .supplyLow => s.resets.lineAsserted

/-- The reset conditions and the cause as a condition begins; with both present the cause is a free value (log 8). -/
def State.resetsOn (s : State) (cause : ResetCause) : ResetControl :=
  let told := if s.otherCondition cause then Config.overlappingResetCause s.fresh else cause
  match cause with
  | .resetLine => { s.resets with lineAsserted := true, cause := told }
  | .supplyLow => { s.resets with supplyLow := true, cause := told }

/-- FULL_RESET: the part is held in reset while the condition lasts; below the reset level is below the dip level. -/
def effectFullReset (cause : ResetCause) (s : State) : State :=
  let held := { s with resets := s.resetsOn cause, fresh := s.fresh + 1 }
  let clear := held.asCleared
  if cause = .supplyLow then clear.setSupply { clear.supply with below := true } else clear

/-- The reset conditions as one of them ends. -/
def State.resetsOff (s : State) (cause : ResetCause) : ResetControl :=
  match cause with
  | .resetLine => { s.resets with lineAsserted := false }
  | .supplyLow => { s.resets with supplyLow := false }

/-- RESET_RELEASE: a condition ends; when none is left the part starts (R168). -/
def effectResetRelease (cause : ResetCause) (s : State) : State :=
  let eased := { s with resets := s.resetsOff cause }
  if s.inReset && !eased.inReset then releaseReset (.ofReset s.resets.cause) 0 eased else eased

/-! ## Wake (R167) -/

/-- A wake in RETAIN mode. -/
def wakeRetain (l : Link) (s : State) : State :=
  let awake := clearRecords { s with
    phase := .configuring
    lp0 := { s.lp0.hunting with notBefore := some s.clock }
    lp1 := { s.lp1.hunting with notBefore := some s.clock }
    deskDark := { s.deskDark with since := s.clock } }
  let marked := awake.setPort l { awake.port l with wokeAt := some s.clock }
  conclude (phaseReport .wakeRetain (linkCode l) (beginRefresh (markAll marked)))

/-- A wake in RESET mode: a full reset. -/
def wakeReset (l : Link) (s : State) : State :=
  let reset := releaseReset .wakeReset (linkCode l) s
  reset.setPort l { reset.port l with wokeAt := some reset.clock }

/-- In DORMANT the line of an enabled link can have been low for 1 ms, measured from the later of its fall and the entry
to DORMANT, as far as the part has seen the line (R167; log 38). -/
def State.wakeAllowed (s : State) (l : Link) : Bool :=
  s.phase == .dormant && s.sleep.dormantAt.isNone && s.linkEnabled l && (s.port l).wakesFrom.isNone

/-- A line held low in a break has been low for 1 ms in DORMANT: the part wakes of itself (R167). -/
def State.wakeDue (s : State) (l : Link) : Bool := s.wakeAllowed l && (s.port l).lineLow

/-- WAKE: the line has been low for 1 ms in DORMANT (R167). -/
def effectWake (l : Link) (s : State) : State :=
  if s.wakeAllowed l then
    match s.general.wakeMode with
    | .retain => wakeRetain l s
    | .reset => wakeReset l s
  else s

/-! ## The supply monitor (R168) -/

/-- SUPPLY_DIP_LEVEL_CROSSING: the supply passes to one side of the dip level. -/
def effectSupplyDipLevelCrossing (below : Bool) (s : State) : State :=
  if s.supply.below = below then s else s.setSupply { s.supply with below, since := s.clock }

/-- The supply has stood below the dip level for 20 ms in NORMAL. -/
def State.dipDue (s : State) : Bool :=
  !s.inReset && s.supply.state == .normal && s.supply.below && 20000 ≤ s.elapsed s.supply.since

/-- The supply has stood above the dip level for 100 ms in DIP. -/
def State.dipOver (s : State) : Bool :=
  !s.inReset && s.supply.state == .dip && !s.supply.below && 100000 ≤ s.elapsed s.supply.since

/-- The supply state changes and is handed to the lamp field. -/
def handSupply (state : SupplyState) (s : State) : State :=
  let moved := s.setSupply { s.supply with state }
  darknessChanged .dip (moved.setLamps { moved.lamps with supply := state })

/-- DIP_ENTRY. -/
def effectDipEntry (s : State) : State :=
  if s.dipDue then
    let dark := handSupply .dip s
    conclude (if s.running then
      internalRaise 1010 200 none (dark.setSupply { dark.supply with raised := true }) else dark)
  else s

/-- DIP_END. -/
def effectDipEnd (s : State) : State :=
  if s.dipOver then
    let back := handSupply .normal s
    conclude (if s.supply.raised then
      internalClear 1010 200 (back.setSupply { back.supply with raised := false }) else back)
  else s

/-! ## The desk-dark line (R116) -/

/-- DESK_DARK_LINE_CHANGE: the line takes a level. -/
def effectDeskDarkLineChange (asserted : Bool) (s : State) : State :=
  if s.deskDark.asserted = asserted then s else { s with deskDark := ⟨asserted, s.clock⟩ }

/-- A level that differs from CAB DARK has stood for 10 ms, and the line is followed. -/
def State.deskDarkDue (s : State) : Bool :=
  !s.inReset && s.phase != .dormant && s.deskDark.asserted != s.condition cabDarkBit
    && 10000 ≤ s.elapsed s.deskDark.since

/-- DESK_DARK_TAKEN: CAB DARK changes and is handed to the fault list, then the output state moves. -/
def effectDeskDarkTaken (s : State) : State :=
  if s.deskDarkDue then conclude (darknessChanged .darkLine (handFlag cabDarkBit s.deskDark.asserted s)) else s

end Sys2Proof.Machine
end

