-- ==== Sys2Proof/Machine/Queries.lean ====
section
/-! DEFINITION. The data replies (sections 9.3 to 9.6): STATUS DATA, SLOT DATA, COUNTER DATA and SPEED DATA. FAULT DATA
is in Machine/FaultOrders.lean. -/

namespace Sys2Proof.Machine

/-- STATUS DATA (section 9.6). The target of a changeover in progress is the active system. -/
def statusData (s : State) : Frame :=
  let target := if s.changeover.transit.isSome then some (b8 s.changeover.active) else none
  ⟨0x42, b8 s.phase.code ++ b8 s.changeover.active ++ flag s.changeover.transit.isSome ++ optional 1 target
    ++ b8 s.lamps.output.code ++ b8 s.lamps.dim.code ++ b8 (testCode s.lamps.test) ++ b8 s.supply.state.code
    ++ b8 s.band.code ++ b16 s.faults.conditions ++ b8 s.faults.entries.length
    ++ b8 s.faults.visibleEntries.length ++ b8 (s.faults.entries.filter Entry.unacknowledged).length
    ++ b8 s.faults.cursor ++ b32 s.now⟩

/-- QUERY STATUS. -/
def ownQueryStatus (l : Link) (s : State) : State := queueFrame l (statusData s) s

/-! ## SLOT DATA (R27, R158) -/

/-- Bytes of a definition that belong to no field of the slot's kind: free values (log 9). -/
def ignoredBytes (fresh start count : Nat) : List Byte :=
  (List.range count).map (fun i => Config.ignoredByte fresh (start + i))

/-- A signed value in two bytes. -/
def i16 (v : Int) : List Byte := b16 (BitVec.ofInt 16 v)

/-- The coding of a kind. -/
def SlotBody.kindCode : SlotBody → Nat | .number .. => 1 | .aspect .. => 2 | .state .. => 3

/-- Bytes 5 to 27 of a definition, by its kind. -/
def SlotBody.bytes (b : SlotBody) (fresh : Nat) : List Byte :=
  match b with
  | .number fallback panel range places =>
    i16 (fallback.getD (-32768)) ++ ignoredBytes fresh 7 1 ++ b8 (panel.getD 0xff) ++ ignoredBytes fresh 9 11
      ++ (match range with
          | some r => b8 1 ++ i16 r.1 ++ i16 r.2
          | none => b8 0 ++ List.replicate 4 0)
      ++ b8 places ++ ignoredBytes fresh 26 2
  | .aspect fallback group attention count =>
    n16 fallback ++ b8 group.length ++ group.flatMap b8 ++ ignoredBytes fresh (8 + group.length) (12 - group.length)
      ++ ignoredBytes fresh 20 6 ++ flag attention ++ b8 count
  | .state fallback position =>
    n16 fallback ++ ignoredBytes fresh 7 1 ++ b8 position ++ ignoredBytes fresh 9 19

/-- The 29 bytes of a slot's definition; kind NONE and other bytes 0 for an UNDEFINED slot. -/
def definitionBytes (number fresh : Nat) : Option SlotDef → List Byte
  | some d =>
    b8 number ++ b8 d.body.kindCode ++ [d.owner, d.refresh] ++ b8 d.deadline ++ d.body.bytes fresh ++ flag d.lapseAlarm
  | none => List.replicate 29 0

/-- SLOT DATA of a slot. -/
def slotData (i : Fin 64) (s : State) : Frame :=
  let x := s.table[i]
  ⟨0x43, definitionBytes i.val s.fresh x.definition ++ b8 x.state.code ++ optional 2 (x.value.map b16)
    ++ optional 1 (x.lastSource.map b8) ++ optional 4 (x.lastUpdate.map (fun t => b32 (s.now - t)))
    ++ b8 x.lapses ++ flag x.degraded⟩

/-- QUERY SLOT (R27). The free bytes of the reply are read at `fresh`, which advances. -/
def ownQuerySlot (l : Link) (p : List Byte) (s : State) : State :=
  checked .querySlot l [field 0 (natAt p 0 ≤ 63)] (fun s =>
    if h : natAt p 0 < 64 then
      queueFrame l (slotData ⟨natAt p 0, h⟩ s) { s with fresh := s.fresh + 1 }
    else s) s

/-! ## COUNTER DATA -/

/-- The sixteen bytes of one link. -/
def Port.counterBytes (p : Port) : List Byte :=
  n16 p.counters.parity ++ n16 p.counters.stop ++ n16 p.counters.length ++ n16 p.counters.check ++ n16 p.counters.gap
    ++ n16 p.counters.lineBreak ++ n16 p.reportLost ++ n16 p.replyLost

/-- QUERY COUNTERS. -/
def ownQueryCounters (l : Link) (s : State) : State :=
  queueFrame l ⟨0x45, s.lp0.counterBytes ++ s.lp1.counterBytes⟩ s

/-! ## SPEED DATA (R74) -/

/-- One channel of SPEED DATA, each field optional. -/
def Wheel.dataBytes (w : Wheel) : List Byte :=
  optional 2 (w.speed.map n16) ++ optional 1 (w.status.map (fun x => b8 x.code))
    ++ optional 1 (w.direction.map (fun x => b8 x.code))

/-- The reference record's fields, 0 when none is held (log 18). -/
def referenceBytes : Option Reference → List Byte
  | some r => b8 r.source ++ n16 r.speed ++ b8 r.quality.code ++ b32 r.arrival
  | none => List.replicate 8 0

/-- SPEED DATA (R74, section 9.6). The ten sticky flags, to which R154 gives no coding as a set, are the two-byte word
that R160 gives them in SPEED REPORT: the model's choice (log 36). -/
def speedData (s : State) : Frame :=
  let u := s.speed
  ⟨0x46, u.wheelA.dataBytes ++ u.wheelB.dataBytes ++ optional 2 (u.displayed.map n16) ++ b8 u.selection.code
    ++ b8 u.direction.code ++ b8 u.disagreement.accord.code ++ b8 u.disagreement.mismatchRun
    ++ b8 u.disagreement.agreeRun ++ b8 u.referenceCheck.accord.code ++ b8 s.referenceNow.code
    ++ referenceBytes u.reference ++ flag (s.condition standstillBit) ++ b16 u.sticky
    ++ n16 u.settings.wheelDiameter ++ n16 u.settings.pulses
    ++ optional 4 (u.pendingWheel.map (fun w => n16 w.1 ++ n16 w.2))⟩

/-- QUERY SPEED. -/
def ownQuerySpeed (l : Link) (s : State) : State := queueFrame l (speedData s) s

end Sys2Proof.Machine
end

