-- ==== Sys2Proof/Machine/Receiver.lean ====
section
/-! DEFINITION. The receiver (R148, R149): a byte taken, a frame completed and handed over (R151). -/

namespace Sys2Proof.Machine

/-- The owning block's part of each order kind. -/
def runOwner (k : OrderKind) (l : Link) (p : List Byte) (lines : Lines) (s : State) : State :=
  match k with
  | .defineSlot => ownDefineSlot l p s
  | .defineAspect => ownDefineAspect l p s
  | .defineFault => ownDefineFault l p s
  | .setSpeedParameters => ownSetSpeedParameters l p s
  | .setLampChannel => ownSetLampChannel l p s
  | .setCadence => ownSetCadence l p s
  | .setKey => ownSetKey l p s
  | .setLink => ownSetLink l p s
  | .setGeneral => ownSetGeneral l p s
  | .start => ownStart l s
  | .stop => ownStop l s
  | .restart => ownRestart l s
  | .sleep => ownSleep l lines s
  | .update => ownUpdate l p s
  | .keepAlive => ownKeepAlive l p s
  | .raiseFault => ownRaiseFault l p s
  | .clearFault => ownClearFault l p s
  | .acknowledgeFault => ownAcknowledgeFault l p s
  | .setConditions => ownSetConditions l p s
  | .changeover => ownChangeover l p s
  | .referenceSpeed => ownReferenceSpeed l p s
  | .setWheel => ownSetWheel l p s
  | .setDim => ownSetDim l p s
  | .lampTest => ownLampTest l p s
  | .lampReset => ownLampReset l p s
  | .resumeOutputs => ownResumeOutputs l s
  | .clearSpeedFlags => ownClearSpeedFlags l p s
  | .queryStatus => ownQueryStatus l s
  | .querySlot => ownQuerySlot l p s
  | .queryFaults => ownQueryFaults l p s
  | .queryCounters => ownQueryCounters l s
  | .querySpeed => ownQuerySpeed l s

/-- The hand-over of a valid frame, UNKNOWN KIND first (R151). -/
def handOver (l : Link) (f : Frame) (lines : Lines) (s : State) : State :=
  match OrderKind.ofCode f.kind with
  | some k => handTo k l f.payload (runOwner k l f.payload lines) s
  | none => queueFrame l (refuseFrame f.kind .unknownKind 0 0 0) s

/-- The frame a receiver's body holds: its kind byte and its payload. -/
def Receiver.frame (r : Receiver) : Frame := ⟨r.body.headD 0, r.body.tail⟩

/-- The check computed over the length byte and the body (R147). -/
def Receiver.computedCheck (r : Receiver) : Word := frameCheck (BitVec.ofNat 8 r.length :: r.body)

/-- A receiver replaced on its port. -/
def setReceiver (l : Link) (r : Receiver) (s : State) : State := s.setPort l { s.port l with receiver := r }

/-- A byte without error is taken by the receiver's state (R148). -/
def takeGoodByte (l : Link) (data : Byte) (lines : Lines) (s : State) : State :=
  let r := { (s.port l).receiver with lastByteAt := s.clock }
  match r.state with
  | .hunt => if data = 0xC5 then setReceiver l { r with state := .length, length := 0, body := [] } s else s
  | .length =>
    if within 1 64 data.toNat then setReceiver l { r with state := .body, length := data.toNat } s
    else countError l .length s
  | .body =>
    let body := r.body ++ [data]
    setReceiver l { r with body, state := if body.length = r.length then .checkHigh else .body } s
  | .checkHigh => setReceiver l { r with state := .checkLow, checkHigh := data } s
  | .checkLow =>
    if r.checkHigh ++ data = r.computedCheck then handOver l r.frame lines (setReceiver l .hunting s)
    else countError l .check s

/-- A byte that began before the moment a port takes bytes from (R146, R167); its character time is that of R144. -/
def State.beganTooEarly (s : State) (l : Link) : Bool :=
  match (s.port l).notBefore with
  | some moment => !s.bitsPassed (s.port l).settings moment (s.port l).settings.characterBits
  | none => false

/-- The port once a byte is taken: earlier bytes no longer matter, and a high stop bit ends the low period of a wake. -/
def Port.afterByte (p : Port) (stopBit : Bool) : Port :=
  { p with notBefore := none, wokeAt := if stopBit then none else p.wokeAt }

/-- A byte is taken: a parity fault, then a stop fault, ends the frame outside HUNT and is ignored in HUNT (R149). -/
def takeByte (l : Link) (data : Byte) (parityBit stopBit : Bool) (lines : Lines) (s : State) : State :=
  let wrong := parityWrong (s.port l).settings.parity data parityBit
  if (s.port l).receiver.state = .hunt then
    if wrong || !stopBit then s else takeGoodByte l data lines s
  else if wrong then countError l .parity s
  else if !stopBit then countError l .stop s
  else takeGoodByte l data lines s

/-- RECEIVE_BYTE (R148). -/
def effectReceiveByte (l : Link) (data : Byte) (parityBit stopBit : Bool) (lines : Lines) (s : State) : State :=
  if s.listening l && !s.beganTooEarly l then
    takeByte l data parityBit stopBit lines (s.setPort l ((s.port l).afterByte stopBit))
  else s

end Sys2Proof.Machine
end

