-- ==== Sys2Proof/Machine/Commands.lean ====
section
/-! DEFINITION. The meaning of every command, one definition each. An order row is the hand-over of a valid frame
(R151) to its owning block; a timer row that is not due, and an order on a link that is not listening, change nothing.
No command ends in a fault or a refusal. -/

namespace Sys2Proof.Machine

/-- What a command answers. -/
abbrev Answer := Host.Outcome State Fault Refusal

/-! ## Orders -/

/-- DEFINE SLOT (R1, R2, R158). -/
def execDefineSlot (l : Link) (p : List Byte) (s : State) : Answer := .next (takeOrder .defineSlot l p (ownDefineSlot l p) s)

/-- DEFINE ASPECT (R33, R34). -/
def execDefineAspect (l : Link) (p : List Byte) (s : State) : Answer := .next (takeOrder .defineAspect l p (ownDefineAspect l p) s)

/-- DEFINE FAULT (R76, R77). -/
def execDefineFault (l : Link) (p : List Byte) (s : State) : Answer := .next (takeOrder .defineFault l p (ownDefineFault l p) s)

/-- SET SPEED PARAMETERS (R53). -/
def execSetSpeedParameters (l : Link) (p : List Byte) (s : State) : Answer := .next (takeOrder .setSpeedParameters l p (ownSetSpeedParameters l p) s)

/-- SET LAMP CHANNEL (R104). -/
def execSetLampChannel (l : Link) (p : List Byte) (s : State) : Answer := .next (takeOrder .setLampChannel l p (ownSetLampChannel l p) s)

/-- SET CADENCE (R106). -/
def execSetCadence (l : Link) (p : List Byte) (s : State) : Answer := .next (takeOrder .setCadence l p (ownSetCadence l p) s)

/-- SET KEY (R136). -/
def execSetKey (l : Link) (p : List Byte) (s : State) : Answer := .next (takeOrder .setKey l p (ownSetKey l p) s)

/-- SET LINK (R145, R146). -/
def execSetLink (l : Link) (p : List Byte) (s : State) : Answer := .next (takeOrder .setLink l p (ownSetLink l p) s)

/-- SET GENERAL (R161, R163). -/
def execSetGeneral (l : Link) (p : List Byte) (s : State) : Answer := .next (takeOrder .setGeneral l p (ownSetGeneral l p) s)

/-- START (R164). -/
def execStart (l : Link) (p : List Byte) (s : State) : Answer := .next (takeOrder .start l p (ownStart l) s)

/-- STOP (R165). -/
def execStop (l : Link) (p : List Byte) (s : State) : Answer := .next (takeOrder .stop l p (ownStop l) s)

/-- RESTART (R165). -/
def execRestart (l : Link) (p : List Byte) (s : State) : Answer := .next (takeOrder .restart l p (ownRestart l) s)

/-- SLEEP (R166). -/
def execSleep (l : Link) (p : List Byte) (lines : Lines) (s : State) : Answer := .next (takeOrder .sleep l p (ownSleep l lines) s)

/-- UPDATE (R8 to R11, R157). -/
def execUpdate (l : Link) (p : List Byte) (s : State) : Answer := .next (takeOrder .update l p (ownUpdate l p) s)

/-- KEEP ALIVE (R12). -/
def execKeepAlive (l : Link) (p : List Byte) (s : State) : Answer := .next (takeOrder .keepAlive l p (ownKeepAlive l p) s)

/-- RAISE FAULT (R82 to R86). -/
def execRaiseFault (l : Link) (p : List Byte) (s : State) : Answer := .next (takeOrder .raiseFault l p (ownRaiseFault l p) s)

/-- CLEAR FAULT (R88, R89). -/
def execClearFault (l : Link) (p : List Byte) (s : State) : Answer := .next (takeOrder .clearFault l p (ownClearFault l p) s)

/-- ACKNOWLEDGE FAULT (R91, R92). -/
def execAcknowledgeFault (l : Link) (p : List Byte) (s : State) : Answer := .next (takeOrder .acknowledgeFault l p (ownAcknowledgeFault l p) s)

/-- SET CONDITIONS (R79, R80). -/
def execSetConditions (l : Link) (p : List Byte) (s : State) : Answer := .next (takeOrder .setConditions l p (ownSetConditions l p) s)

/-- CHANGEOVER (R41, R42, R48). -/
def execChangeover (l : Link) (p : List Byte) (s : State) : Answer := .next (takeOrder .changeover l p (ownChangeover l p) s)

/-- REFERENCE SPEED (R63). -/
def execReferenceSpeed (l : Link) (p : List Byte) (s : State) : Answer := .next (takeOrder .referenceSpeed l p (ownReferenceSpeed l p) s)

/-- SET WHEEL (R54). -/
def execSetWheel (l : Link) (p : List Byte) (s : State) : Answer := .next (takeOrder .setWheel l p (ownSetWheel l p) s)

/-- SET DIM (R110). -/
def execSetDim (l : Link) (p : List Byte) (s : State) : Answer := .next (takeOrder .setDim l p (ownSetDim l p) s)

/-- LAMP TEST (R121, R122). -/
def execLampTest (l : Link) (p : List Byte) (s : State) : Answer := .next (takeOrder .lampTest l p (ownLampTest l p) s)

/-- LAMP RESET (R114). -/
def execLampReset (l : Link) (p : List Byte) (s : State) : Answer := .next (takeOrder .lampReset l p (ownLampReset l p) s)

/-- RESUME OUTPUTS (R118). -/
def execResumeOutputs (l : Link) (p : List Byte) (s : State) : Answer := .next (takeOrder .resumeOutputs l p (ownResumeOutputs l) s)

/-- CLEAR SPEED FLAGS (R72). -/
def execClearSpeedFlags (l : Link) (p : List Byte) (s : State) : Answer := .next (takeOrder .clearSpeedFlags l p (ownClearSpeedFlags l p) s)

/-- QUERY STATUS (section 9.6). -/
def execQueryStatus (l : Link) (p : List Byte) (s : State) : Answer := .next (takeOrder .queryStatus l p (ownQueryStatus l) s)

/-- QUERY SLOT (R27). -/
def execQuerySlot (l : Link) (p : List Byte) (s : State) : Answer := .next (takeOrder .querySlot l p (ownQuerySlot l p) s)

/-- QUERY FAULTS (R102). -/
def execQueryFaults (l : Link) (p : List Byte) (s : State) : Answer := .next (takeOrder .queryFaults l p (ownQueryFaults l p) s)

/-- QUERY COUNTERS (R152). -/
def execQueryCounters (l : Link) (p : List Byte) (s : State) : Answer := .next (takeOrder .queryCounters l p (ownQueryCounters l) s)

/-- QUERY SPEED (R74). -/
def execQuerySpeed (l : Link) (p : List Byte) (s : State) : Answer := .next (takeOrder .querySpeed l p (ownQuerySpeed l) s)

/-! ## Receivers, timers, pins and samples -/

/-- RECEIVE_BYTE (R148, R149). -/
def execReceiveByte (l : Link) (data : Byte) (parityBit stopBit : Bool) (lines : Lines) (s : State) : Answer := .next (effectReceiveByte l data parityBit stopBit lines s)

/-- GAP_ERROR (R149). -/
def execGapError (l : Link) (s : State) : Answer := .next (effectGapError l s)

/-- BREAK (R149). -/
def execBreak (l : Link) (s : State) : Answer := .next (effectBreak l s)

/-- FRAME_SENT (R152, R146, R166). -/
def execFrameSent (l : Link) (s : State) : Answer := .next (effectFrameSent l s)

/-- LINK_INTERVAL_EXPIRY (R150). -/
def execLinkIntervalExpiry (l : Link) (s : State) : Answer := .next (effectLinkIntervalExpiry l s)

/-- MONITOR_EXPIRY (R15). -/
def execMonitorExpiry (slot : Fin 64) (s : State) : Answer := .next (effectMonitorExpiry slot s)

/-- CHANGEOVER_WINDOW_EXPIRY (R46). -/
def execChangeoverWindowExpiry (s : State) : Answer := .next (effectChangeoverWindowExpiry s)

/-- WHEEL_PHASE_CHANGE (R51). -/
def execWheelPhaseChange (wheel : WheelId) (phase1 phase2 : Bool) (s : State) : Answer := .next (effectWheelPhaseChange wheel (phase1, phase2) s)

/-- WINDOW_END (R56). -/
def execWindowEnd (s : State) : Answer := .next (effectWindowEnd s)

/-- PERIOD_START (R106 to R108). -/
def execPeriodStart (generator : Generator) (s : State) : Answer := .next (effectPeriodStart generator s)

/-- SWITCHING_END (R111). -/
def execSwitchingEnd (pair : Fin 12) (s : State) : Answer := .next (effectSwitchingEnd pair s)

/-- LAMP_SAMPLE (R112, R113). -/
def execLampSample (channel : Fin 24) (current : Nat) (s : State) : Answer := .next (effectLampSample channel current s)

/-- LAMP_TEST_LIMIT (R122). -/
def execLampTestLimit (s : State) : Answer := .next (effectLampTestLimit s)

/-- DESK_DARK_LINE_CHANGE (R116). -/
def execDeskDarkLineChange (asserted : Bool) (s : State) : Answer := .next (effectDeskDarkLineChange asserted s)

/-- DESK_DARK_TAKEN (R116, R117). -/
def execDeskDarkTaken (s : State) : Answer := .next (effectDeskDarkTaken s)

/-- DIP_ENTRY (R168). -/
def execDipEntry (s : State) : Answer := .next (effectDipEntry s)

/-- DIP_END (R168). -/
def execDipEnd (s : State) : Answer := .next (effectDipEnd s)

/-- FULL_RESET (R168). -/
def execFullReset (cause : ResetCause) (s : State) : Answer := .next (effectFullReset cause s)

/-- WAKE (R167). -/
def execWake (l : Link) (s : State) : Answer := .next (effectWake l s)

/-- KEY_SCAN (R137). -/
def execKeyScan (samples : Vector (BitVec 12) 6) (s : State) : Answer := .next (effectKeyScan samples s)

/-- STUCK_TIMER_EXPIRY (R140). -/
def execStuckTimerExpiry (key : Fin 6) (s : State) : Answer := .next (effectStuckTimerExpiry key s)

/-- METER_TARGET_REACHED (R125). -/
def execMeterTargetReached (s : State) : Answer := .next (effectMeterTargetReached s)

/-- CHIME_PATTERN_END (R129). -/
def execChimePatternEnd (s : State) : Answer := .next (effectChimePatternEnd s)

/-- PANEL_REFRESH_EXPIRY (R133). -/
def execPanelRefreshExpiry (s : State) : Answer := .next (effectPanelRefreshExpiry s)

/-- PANEL_FRAME_END (R134). -/
def execPanelFrameEnd (s : State) : Answer := .next (effectPanelFrameEnd s)

/-- SUPPLY_DIP_LEVEL_CROSSING (R168). -/
def execSupplyDipLevelCrossing (below : Bool) (s : State) : Answer := .next (effectSupplyDipLevelCrossing below s)

/-- RESET_RELEASE (R168). -/
def execResetRelease (cause : ResetCause) (s : State) : Answer := .next (effectResetRelease cause s)

/-- BREAK_END (R149). -/
def execBreakEnd (l : Link) (s : State) : Answer := .next (effectBreakEnd l s)

end Sys2Proof.Machine
end

