-- ==== Sys2Proof/Machine/Dispatch.lean ====
section
/-! DEFINITION. One arm per command. -/

namespace Sys2Proof.Machine

def exec (i : Instr) (s : State) : Host.Outcome State Fault Refusal :=
  match i with
  -- orders
  | .defineSlot l p => Sys2Proof.Machine.execDefineSlot l p s
  | .defineAspect l p => Sys2Proof.Machine.execDefineAspect l p s
  | .defineFault l p => Sys2Proof.Machine.execDefineFault l p s
  | .setSpeedParameters l p => Sys2Proof.Machine.execSetSpeedParameters l p s
  | .setLampChannel l p => Sys2Proof.Machine.execSetLampChannel l p s
  | .setCadence l p => Sys2Proof.Machine.execSetCadence l p s
  | .setKey l p => Sys2Proof.Machine.execSetKey l p s
  | .setLink l p => Sys2Proof.Machine.execSetLink l p s
  | .setGeneral l p => Sys2Proof.Machine.execSetGeneral l p s
  | .start l p => Sys2Proof.Machine.execStart l p s
  | .stop l p => Sys2Proof.Machine.execStop l p s
  | .restart l p => Sys2Proof.Machine.execRestart l p s
  | .sleep l p lines => Sys2Proof.Machine.execSleep l p lines s
  | .update l p => Sys2Proof.Machine.execUpdate l p s
  | .keepAlive l p => Sys2Proof.Machine.execKeepAlive l p s
  | .raiseFault l p => Sys2Proof.Machine.execRaiseFault l p s
  | .clearFault l p => Sys2Proof.Machine.execClearFault l p s
  | .acknowledgeFault l p => Sys2Proof.Machine.execAcknowledgeFault l p s
  | .setConditions l p => Sys2Proof.Machine.execSetConditions l p s
  | .changeover l p => Sys2Proof.Machine.execChangeover l p s
  | .referenceSpeed l p => Sys2Proof.Machine.execReferenceSpeed l p s
  | .setWheel l p => Sys2Proof.Machine.execSetWheel l p s
  | .setDim l p => Sys2Proof.Machine.execSetDim l p s
  | .lampTest l p => Sys2Proof.Machine.execLampTest l p s
  | .lampReset l p => Sys2Proof.Machine.execLampReset l p s
  | .resumeOutputs l p => Sys2Proof.Machine.execResumeOutputs l p s
  | .clearSpeedFlags l p => Sys2Proof.Machine.execClearSpeedFlags l p s
  | .queryStatus l p => Sys2Proof.Machine.execQueryStatus l p s
  | .querySlot l p => Sys2Proof.Machine.execQuerySlot l p s
  | .queryFaults l p => Sys2Proof.Machine.execQueryFaults l p s
  | .queryCounters l p => Sys2Proof.Machine.execQueryCounters l p s
  | .querySpeed l p => Sys2Proof.Machine.execQuerySpeed l p s
  -- receivers, timers, pins and samples
  | .receiveByte l data parityBit stopBit lines => Sys2Proof.Machine.execReceiveByte l data parityBit stopBit lines s
  | .gapError l => Sys2Proof.Machine.execGapError l s
  | .lineBreak l => Sys2Proof.Machine.execBreak l s
  | .frameSent l => Sys2Proof.Machine.execFrameSent l s
  | .linkIntervalExpiry l => Sys2Proof.Machine.execLinkIntervalExpiry l s
  | .monitorExpiry slot => Sys2Proof.Machine.execMonitorExpiry slot s
  | .changeoverWindowExpiry => Sys2Proof.Machine.execChangeoverWindowExpiry s
  | .wheelPhaseChange wheel phase1 phase2 => Sys2Proof.Machine.execWheelPhaseChange wheel phase1 phase2 s
  | .windowEnd => Sys2Proof.Machine.execWindowEnd s
  | .periodStart generator => Sys2Proof.Machine.execPeriodStart generator s
  | .switchingEnd pair => Sys2Proof.Machine.execSwitchingEnd pair s
  | .lampSample channel current => Sys2Proof.Machine.execLampSample channel current s
  | .lampTestLimit => Sys2Proof.Machine.execLampTestLimit s
  | .deskDarkLineChange asserted => Sys2Proof.Machine.execDeskDarkLineChange asserted s
  | .deskDarkTaken => Sys2Proof.Machine.execDeskDarkTaken s
  | .dipEntry => Sys2Proof.Machine.execDipEntry s
  | .dipEnd => Sys2Proof.Machine.execDipEnd s
  | .fullReset cause => Sys2Proof.Machine.execFullReset cause s
  | .wake l => Sys2Proof.Machine.execWake l s
  | .keyScan samples => Sys2Proof.Machine.execKeyScan samples s
  | .stuckTimerExpiry key => Sys2Proof.Machine.execStuckTimerExpiry key s
  | .meterTargetReached => Sys2Proof.Machine.execMeterTargetReached s
  | .chimePatternEnd => Sys2Proof.Machine.execChimePatternEnd s
  | .panelRefreshExpiry => Sys2Proof.Machine.execPanelRefreshExpiry s
  | .panelFrameEnd => Sys2Proof.Machine.execPanelFrameEnd s
  | .supplyDipLevelCrossing below => Sys2Proof.Machine.execSupplyDipLevelCrossing below s
  | .resetRelease cause => Sys2Proof.Machine.execResetRelease cause s
  | .breakEnd l => Sys2Proof.Machine.execBreakEnd l s

end Sys2Proof.Machine
end

