-- ==== Sys2Proof/Machine/Time.lean ====
section
/-! DEFINITION. The passing of time and the timer events that come due (logs 1, 2 and 7): what the part does of itself
while no command waits. -/

namespace Sys2Proof.Machine

/-- The commands of a list whose moment has come. -/
def dueOf (candidates : List (Bool × Instr)) : List Instr := (candidates.filter (fun c => c.1)).map Prod.snd

/-- The monitor of a slot has expired (R15). -/
def State.monitorDue (s : State) (i : Fin 64) : Bool :=
  match s.table[i].monitor with
  | .armed expiry => s.running && s.reached expiry
  | .stopped | .suspended => false

/-- A time of the time counter has been reached in RUNNING. -/
def State.timeDue (s : State) : Option Time → Bool
  | some t => s.running && s.reached t
  | none => false

/-- The stuck timer of a PRESSED key has expired (R140). -/
def State.stuckDue (s : State) (i : Fin 6) : Bool :=
  s.keys.keys[i].state == .pressed && s.timeDue s.keys.keys[i].stuckTimer

/-- A sample of a channel is due (R112). -/
def State.sampleDue (s : State) (channel : Fin 24) : Bool := s.steadySampleDue channel || s.flashSampleDue channel

/-- The timer events due on one link. -/
def State.linkDue (s : State) (l : Link) : List Instr :=
  dueOf [(s.frameOver l, .frameSent l), (s.gapOver l, .gapError l),
    (s.intervalDue l, .linkIntervalExpiry l), (s.wakeDue l, .wake l)]

/-- The electrode samples of a scan that the part takes of itself. -/
def State.freeSamples (s : State) : Vector (BitVec 12) 6 := Vector.ofFn (fun i => Config.electrodeSample s.fresh i)

/-- Every timer event due now, in the order of the table's rows; samples are free values (log 7). -/
def State.dueEvents (s : State) : List Instr :=
  s.linkDue .lp0 ++ s.linkDue .lp1
    ++ ((indices 64).filter s.monitorDue).map .monitorExpiry
    ++ dueOf [(s.timeDue (s.changeover.transit.map Transit.expiry), .changeoverWindowExpiry),
      (s.timeDue s.speed.windowEnd, .windowEnd),
      (s.dueAt (s.nextPeriodStart .slow), .periodStart .slow), (s.dueAt (s.nextPeriodStart .fast), .periodStart .fast)]
    ++ ((indices 12).filter (fun i => s.dueAt s.lamps.drives[i].switching)).map .switchingEnd
    ++ ((indices 24).filter s.sampleDue).map (fun i => .lampSample i (Config.senseCurrent s.fresh).val)
    ++ dueOf [(s.testLimitReached, .lampTestLimit), (s.deskDarkDue, .deskDarkTaken),
      (s.dipDue, .dipEntry), (s.dipOver, .dipEnd), (s.running && s.dueAt s.keys.scanAt, .keyScan s.freeSamples)]
    ++ ((indices 6).filter s.stuckDue).map .stuckTimerExpiry
    ++ dueOf [(s.meterArrived, .meterTargetReached), (s.chimePatternOver, .chimePatternEnd),
      (s.dueAt s.panel.refresh, .panelRefreshExpiry), (s.panelFrameOver, .panelFrameEnd)]

/-- The event taken among those due: a free choice when there are several (log 2). -/
def State.nextEvent (s : State) : Option Instr :=
  match s.dueEvents with
  | [] => none
  | [c] => some c
  | c :: rest => some ((c :: rest).getD (Config.dueChoice s.fresh % (rest.length + 1)) c)

/-- A port one microsecond later. Bytes that end from now on began late enough once a character time has passed, a break
is of a later low period once 2 character times have passed since a wake, and a moment that is reached is let go. -/
def Port.later (s : State) (p : Port) : Port :=
  { p with
    notBefore := p.notBefore.filter (fun moment => !s.bitsPassed p.settings moment p.settings.characterBits)
    wakesFrom := p.wakesFrom.filter (fun moment => !s.due moment)
    wokeAt := p.wokeAt.filter (fun moment => !s.bitsPassed p.settings moment (2 * p.settings.characterBits)) }

/-- The entry to DORMANT lies 1 ms back. -/
def SleepControl.later (s : State) (c : SleepControl) : SleepControl :=
  match c.dormantAt with
  | some moment => if 1000 ≤ s.elapsed moment then { c with dormantAt := none } else c
  | none => c

/-- One microsecond passes (log 1): the time counter counts and the meter moves. In reset nothing passes. -/
def tick (s : State) : State :=
  if s.inReset then s
  else
    let t := tickMeter { s with clock := (s.clock + 1) % clockPeriod }
    { t with lp0 := t.lp0.later t, lp1 := t.lp1.later t, sleep := t.sleep.later t }

/-- The state an event of the part's own is run on: the free-value counter has moved on. -/
def State.withEvent (s : State) : State := { s with fresh := s.fresh + 1 }

end Sys2Proof.Machine
end

