-- ==== Sys2Proof/Machine/Step.lean ====
section
/-! DEFINITION. One step of the part: the command at the front of the queue, or what the part does of itself. -/

namespace Sys2Proof.Machine

/-- The part with no command waiting: a timer event that is due, else one microsecond. -/
def idle (s : State) : Host.Outcome State Fault Refusal :=
  match s.nextEvent with
  | some c => exec c s.withEvent
  | none => .next (tick s)

/-- The command at the front of the queue is taken and run on the state with the queue's rest. -/
def step (s : State) : Host.Outcome State Fault Refusal :=
  match s.pending with
  | c :: rest => exec c { s with pending := rest }
  | [] => idle s

/-- The command a word spells put at the front of the queue; no word spells one. -/
def State.withFetchWord (s : State) (nbits w : Nat) : State :=
  match decodeTableWord nbits w with
  | some c => { s with pending := c :: s.pending }
  | none => s

end Sys2Proof.Machine
end

