-- ==== Sys2Proof/Safety.lean ====
section
/-! DEFINITION. What the statements are said in: the pieces of State a command may change, the reply to an order, and
the invariants of the part. -/

namespace Sys2Proof.Safety

open Sys2Proof.Machine

/-! ## Frames -/

/-- The fields of State. -/
inductive Field where
  | clock | phase | supply | resets | sleep | general | lp0 | lp1 | table | band | aspects | changeover | speed | faults
  | lamps | meter | chime | panel | keys | deskDark | wheelPins | fresh | pending
deriving DecidableEq, Repr

/-- Two states agree on a field. -/
def agreeOn (s t : State) : Field → Prop
  | .clock => t.clock = s.clock
  | .phase => t.phase = s.phase
  | .supply => t.supply = s.supply
  | .resets => t.resets = s.resets
  | .sleep => t.sleep = s.sleep
  | .general => t.general = s.general
  | .lp0 => t.lp0 = s.lp0
  | .lp1 => t.lp1 = s.lp1
  | .table => t.table = s.table
  | .band => t.band = s.band
  | .aspects => t.aspects = s.aspects
  | .changeover => t.changeover = s.changeover
  | .speed => t.speed = s.speed
  | .faults => t.faults = s.faults
  | .lamps => t.lamps = s.lamps
  | .meter => t.meter = s.meter
  | .chime => t.chime = s.chime
  | .panel => t.panel = s.panel
  | .keys => t.keys = s.keys
  | .deskDark => t.deskDark = s.deskDark
  | .wheelPins => t.wheelPins = s.wheelPins
  | .fresh => t.fresh = s.fresh
  | .pending => t.pending = s.pending

/-- From s to t nothing changes but the listed fields. -/
def unchangedExcept (touched : List Field) (s t : State) : Prop := ∀ f : Field, f ∉ touched → agreeOn s t f

/-- From one lamp field to another nothing changes but the drives, the output and test states and the channels'
schedules and results: the settings, generators, positions, dim state, supply copy and conditions stand. -/
def lampSettingsKept (a b : LampField) : Prop :=
  b.pairs = a.pairs ∧ b.slowGenerator = a.slowGenerator ∧ b.fastGenerator = a.fastGenerator
    ∧ b.positions = a.positions ∧ b.dim = a.dim ∧ b.supply = a.supply
    ∧ ∀ c : Fin 24, b.channels[c].condition = a.channels[c].condition

/-! ## Orders and replies -/

/-- A valid frame of an order kind on a link passes the hand-over: it reaches its owning block (R151). -/
def received (k : OrderKind) (l : Link) (p : List Byte) (s : State) : Bool :=
  s.listening l && (k.handOverRefusal l p s.phase).isNone

/-- One frame is queued on the link an order came by and nothing else changes on either port, but that the order's frame
has ended the low period of a wake (R167). -/
def repliedWith (f : Frame) (l : Link) (s t : State) : Prop :=
  t.port l = { (s.port l).enqueue s.clock f with wokeAt := none } ∧ ∀ m : Link, m ≠ l → t.port m = s.port m

/-- The first frame queued on the arrival link is the reply, when its queue holds fewer than 8 frames. -/
def repliesFirst (f : Frame) (l : Link) (s t : State) : Prop :=
  (s.port l).queue.length < Config.queueCapacity → ((s.port l).queue ++ [f]) <+: (t.port l).queue

/-- An order passes the checks of its owning block. -/
abbrev passes (checks : List Check) : Prop := firstFailure checks = none

/-- The command of an order kind. -/
def orderOf (k : OrderKind) (l : Link) (p : List Byte) (lines : Lines) : Instr :=
  match k with
  | .defineSlot => .defineSlot l p
  | .defineAspect => .defineAspect l p
  | .defineFault => .defineFault l p
  | .setSpeedParameters => .setSpeedParameters l p
  | .setLampChannel => .setLampChannel l p
  | .setCadence => .setCadence l p
  | .setKey => .setKey l p
  | .setLink => .setLink l p
  | .setGeneral => .setGeneral l p
  | .start => .start l p
  | .stop => .stop l p
  | .restart => .restart l p
  | .sleep => .sleep l p lines
  | .update => .update l p
  | .keepAlive => .keepAlive l p
  | .raiseFault => .raiseFault l p
  | .clearFault => .clearFault l p
  | .acknowledgeFault => .acknowledgeFault l p
  | .setConditions => .setConditions l p
  | .changeover => .changeover l p
  | .referenceSpeed => .referenceSpeed l p
  | .setWheel => .setWheel l p
  | .setDim => .setDim l p
  | .lampTest => .lampTest l p
  | .lampReset => .lampReset l p
  | .resumeOutputs => .resumeOutputs l p
  | .clearSpeedFlags => .clearSpeedFlags l p
  | .queryStatus => .queryStatus l p
  | .querySlot => .querySlot l p
  | .queryFaults => .queryFaults l p
  | .queryCounters => .queryCounters l p
  | .querySpeed => .querySpeed l p

/-- A command answers a next state with a property. -/
def answers (c : Instr) (s : State) (post : State → Prop) : Prop := ∃ t : State, exec c s = .next t ∧ post t

/-! ## Invariants -/

/-- A link port: at most 8 frames (section 8.5), every count at most 65535 (R149, R152), the monitor within its
ranges (R150). -/
abbrev portSound (p : Port) : Prop :=
  p.queue.length ≤ 8
    ∧ p.counters.parity ≤ 65535 ∧ p.counters.stop ≤ 65535 ∧ p.counters.length ≤ 65535
    ∧ p.counters.check ≤ 65535 ∧ p.counters.gap ≤ 65535 ∧ p.counters.lineBreak ≤ 65535
    ∧ p.reportLost ≤ 65535 ∧ p.replyLost ≤ 65535
    ∧ p.monitor.errors ≤ 255 ∧ p.monitor.cleanRun ≤ 10

/-- Both link ports. -/
abbrev portsSound (s : State) : Prop := portSound s.lp0 ∧ portSound s.lp1

/-- The SLEEP reply waits in CONFIGURING (R166). -/
abbrev waitsInConfiguring (s : State) : Prop := s.sleep.waiting = true → s.phase = .configuring

/-- The fault list: at most 48 entries, no two of one code and origin, in class order (R81), each counted 1 to 255 and
visible as R80 says; the cursor within the pages (R98); the demand as R97 says; no entry outside RUNNING. -/
abbrev listSound (s : State) : Prop :=
  waitsInConfiguring s
    ∧ s.faults.entries.length ≤ 48
    ∧ (s.faults.entries.map (fun e => (e.code, e.origin))).Nodup
    ∧ s.faults.entries.Pairwise (fun a b => a.treatment.cls.code ≤ b.treatment.cls.code)
    ∧ (∀ e ∈ s.faults.entries, 1 ≤ e.occurrences ∧ e.occurrences ≤ 255
        ∧ e.visible = visibleUnder s.faults.conditions e.treatment.mask e.treatment.mtch)
    ∧ s.faults.cursor ≤ s.faults.pages - 1
    ∧ s.faults.demand = s.faults.entries.any Entry.demands
    ∧ s.faults.dropped ≤ 65535
    ∧ (s.phase ≠ .running → s.faults.entries = [])

/-- A definition's binding lies within its range (R1): a panel field, a group of 1 to 12 positions, a position. -/
def bindingFits : SlotBody → Bool
  | .number _ field _ _ => field.all (fun f => decide (f ≤ 15))
  | .aspect _ group _ _ =>
    decide (1 ≤ group.length) && decide (group.length ≤ 12) && group.all (fun q => decide (q ≤ 23))
  | .state _ position => decide (position ≤ 23)

/-- One slot keeps the table of R6, and its definition the ranges of R1 that its bindings have. -/
abbrev slotSound (x : Slot) : Prop :=
  (x.definition = none ↔ x.state = .undefined)
    ∧ x.definition.all (fun d => bindingFits d.body) = true
    ∧ (x.state = .live ↔ x.value.isSome = true)
    ∧ (x.state = .transit ↔ x.monitor = .suspended)
    ∧ (x.monitor = .stopped ∨ x.monitor = .suspended ∨ x.state = .awaiting ∨ x.state = .live)
    ∧ (x.degraded = true → x.state = .live ∧ x.isAspect = true)
    ∧ (x.rank.isSome = true → x.state = .live)
    ∧ x.lapses ≤ 255

/-- The Indication Table: every slot keeps the table of R6 and its bindings' ranges (R1), slot 0 its fixed definition and
a STOPPED monitor (R3, R18), and outside RUNNING every slot is UNDEFINED or AWAITING with a STOPPED monitor (R6). -/
abbrev tableSound (s : State) : Prop :=
  waitsInConfiguring s
    ∧ (∀ i : Fin 64, slotSound s.table[i])
    ∧ s.table[(0 : Fin 64)].definition = some .displayedSpeed
    ∧ s.table[(0 : Fin 64)].monitor = .stopped
    ∧ (s.phase ≠ .running → ∀ i : Fin 64,
        (s.table[i].state = .undefined ∨ s.table[i].state = .awaiting) ∧ s.table[i].monitor = .stopped)

/-- The aspect map and the host catalogue: within their capacities, no key twice, and the base code of a range with its
low bits 0 (R32, R76, section 4.1). -/
abbrev configurationSound (s : State) : Prop :=
  s.aspects.length ≤ 192 ∧ (s.aspects.map (fun e => (e.system, e.code))).Nodup
    ∧ s.faults.catalogue.length ≤ 256 ∧ (s.faults.catalogue.map (fun e => (e.base, e.width))).Nodup
    ∧ ∀ e ∈ s.faults.catalogue, e.base % 2 ^ e.width = 0

/-- The desk outputs: outside LIT the meter's duty is 0 and no pattern sounds (R119, R126, R131); outside RUNNING the
output state is QUIET (R117); the key scanner holds the output state as the lamp field has it (R119). -/
abbrev outputsSound (s : State) : Prop :=
  waitsInConfiguring s
    ∧ (s.lamps.output ≠ .lit → s.meter.duty = 0 ∧ s.chime.sounding = none)
    ∧ (s.phase ≠ .running → s.lamps.output = .quiet)
    ∧ s.keys.outputHeld = s.lamps.output

end Sys2Proof.Safety
end

