-- ==== Sys2Proof/Certificates/Slice0/Obligations.lean ====
section
/-! DEFINITION. The statements for the provers, chapter by chapter of spec/. `received k l p s` says that an order of
kind k passes the hand-over tests (R151) on a link that is listened to; `answers c s post` that the command c answers a
next state with the property. -/

open Sys2Proof Sys2Proof.Machine Sys2Proof.Safety

/-! ## The step and the queue of commands -/

/-- The command at the front of the queue is run on the state with the queue's rest. -/
def Obligations.StepRunsFrontCommand : Prop :=
  ∀ (c : Instr) (s : State), step { s with pending := c :: s.pending } = exec c s

/-- With no command waiting, one of the timer events due is taken, else one microsecond passes; held in reset nothing
passes (the model's choice, logs 1 and 2). -/
def Obligations.IdleTakesDueEventOrTime : Prop :=
  ∀ s : State, s.pending = [] →
    (s.dueEvents ≠ [] → ∃ c ∈ s.dueEvents, step s = exec c s.withEvent)
      ∧ (s.dueEvents = [] → s.inReset = true → step s = .next s)
      ∧ (s.dueEvents = [] → s.inReset = false →
          ∃ t : State, step s = .next t ∧ t.clock = (s.clock + 1) % clockPeriod
            ∧ (s.lit = false ∨ s.meter.moving = false → t.meter = s.meter)
            ∧ (∀ l : Link, t.port l = { s.port l with
                notBefore := (t.port l).notBefore, wakesFrom := (t.port l).wakesFrom, wokeAt := (t.port l).wokeAt })
            ∧ t.sleep.waiting = s.sleep.waiting
            ∧ unchangedExcept [.clock, .meter, .lp0, .lp1, .sleep] s t)

/-- Every command answers a next state. That it leaves the queue of waiting commands alone (the queue is the model's own,
log 30) and takes no time unless it is a reset or a wake (log 1, DESIGN CHOICE) is the model's choice. -/
def Obligations.EveryCommandCompletesKeepingQueue : Prop :=
  ∀ (c : Instr) (s : State), answers c s (fun t =>
    t.pending = s.pending
      ∧ ((∀ k, c ≠ .fullReset k) → (∀ k, c ≠ .resetRelease k) → (∀ l, c ≠ .wake l) → t.clock = s.clock))

/-- A timer row whose moment has not come changes nothing (the model's choice, log 3). -/
def Obligations.TimerRowNotDueChangesNothing : Prop :=
  ∀ s : State,
    (∀ l : Link, s.gapOver l = false → exec (.gapError l) s = .next s)
      ∧ (∀ l : Link, s.frameOver l = false → exec (.frameSent l) s = .next s)
      ∧ (∀ l : Link, s.intervalDue l = false → exec (.linkIntervalExpiry l) s = .next s)
      ∧ (∀ i : Fin 64, s.monitorDue i = false → exec (.monitorExpiry i) s = .next s)
      ∧ (s.timeDue (s.changeover.transit.map Transit.expiry) = false → exec .changeoverWindowExpiry s = .next s)
      ∧ (s.timeDue s.speed.windowEnd = false → exec .windowEnd s = .next s)
      ∧ (∀ g : Generator, s.dueAt (s.nextPeriodStart g) = false → exec (.periodStart g) s = .next s)
      ∧ (∀ i : Fin 12, s.dueAt s.lamps.drives[i].switching = false → exec (.switchingEnd i) s = .next s)
      ∧ (∀ (c : Fin 24) (n : Nat), s.sampleDue c = false → exec (.lampSample c n) s = .next s)
      ∧ (s.testLimitReached = false → exec .lampTestLimit s = .next s)
      ∧ (s.deskDarkDue = false → exec .deskDarkTaken s = .next s)
      ∧ (s.dipDue = false → exec .dipEntry s = .next s)
      ∧ (s.dipOver = false → exec .dipEnd s = .next s)
      ∧ (∀ v, (s.running && s.dueAt s.keys.scanAt) = false → exec (.keyScan v) s = .next s)
      ∧ (∀ i : Fin 6, s.stuckDue i = false → exec (.stuckTimerExpiry i) s = .next s)
      ∧ (s.meterArrived = false → exec .meterTargetReached s = .next s)
      ∧ (s.chimePatternOver = false → exec .chimePatternEnd s = .next s)
      ∧ (s.dueAt s.panel.refresh = false → exec .panelRefreshExpiry s = .next s)
      ∧ (s.panelFrameOver = false → exec .panelFrameEnd s = .next s)

/-! ## Invariants -/

/-- The invariants hold right after reset. -/
def Obligations.InvariantsHoldAtReset : Prop :=
  portsSound State.reset ∧ listSound State.reset ∧ tableSound State.reset ∧ configurationSound State.reset
    ∧ outputsSound State.reset

/-- Every step keeps the bounds of the link ports. -/
def Obligations.StepKeepsPortsSound : Prop := ∀ s t : State, portsSound s → step s = .next t → portsSound t

/-- Every step keeps the fault list in order. -/
def Obligations.StepKeepsFaultListSound : Prop := ∀ s t : State, listSound s → step s = .next t → listSound t

/-- Every step keeps the table of slot states. -/
def Obligations.StepKeepsTableSound : Prop := ∀ s t : State, tableSound s → step s = .next t → tableSound t

/-- Every step keeps the aspect map and the host catalogue within their capacities, with no key held twice. -/
def Obligations.StepKeepsConfigurationSound : Prop :=
  ∀ s t : State, configurationSound s → step s = .next t → configurationSound t

/-- Every step keeps the desk outputs dark outside LIT. -/
def Obligations.StepKeepsOutputsSound : Prop := ∀ s t : State, outputsSound s → step s = .next t → outputsSound t

/-! ## Serial links and message formats (chapters 8 and 9) -/

/-- The five cases of queueing a frame on a port (the table of R152). -/
def Obligations.TransmitQueueFollowsTable : Prop :=
  ∀ (p : Port) (clock : Nat) (f : Frame), p.reportLost ≤ 65535 → p.replyLost ≤ 65535 →
    (p.queue.length < 8 → p.enqueue clock f =
        { p with queue := p.queue ++ [f], txStart := if p.queue = [] then clock else p.txStart })
      ∧ (8 ≤ p.queue.length → f.isReply = false →
          p.enqueue clock f = { p with reportLost := min 65535 (p.reportLost + 1) })
      ∧ (∀ (head newest : Frame) (before after : List Frame), 8 ≤ p.queue.length → f.isReply = true →
          p.queue = head :: before ++ newest :: after → newest.isReply = false → (∀ g ∈ after, g.isReply = true) →
          p.enqueue clock f = { p with
            queue := head :: before ++ after ++ [f], reportLost := min 65535 (p.reportLost + 1) })
      ∧ (8 ≤ p.queue.length → f.isReply = true → (∀ g ∈ p.queue.tail, g.isReply = true) →
          p.enqueue clock f = { p with replyLost := min 65535 (p.replyLost + 1) })

/-- A report stands in the queue of LP0 behind what stood there before, unless that queue is full (R152). -/
def reportQueued (f : Frame) (s t : State) : Prop :=
  (∃ between after : List Frame, t.lp0.queue = s.lp0.queue ++ between ++ f :: after) ∨ 8 ≤ t.lp0.queue.length

/-- Bit `j` of a byte on the line (R144): the start bit, the data bits from the least significant, the parity bit that
makes the number of ones even or odd, and stop bits. -/
def bitOnLine (parity : Parity) (b : Byte) (j : Nat) : Bool :=
  if j = 0 then false
  else if j ≤ 8 then b.getLsbD (j - 1)
  else if j = 9 ∧ parity ≠ .none then
    (((List.range 8).filter (fun i => b.getLsbD i)).length % 2 == 1) == (parity == .even)
  else true

/-- The bit times of a byte sent with some settings (R144). -/
def bitsOfByte (c : LinkSettings) : Nat := 9 + (if c.parity = .none then 0 else 1) + c.stopBits

/-- The frame at the head of a queue goes out byte after byte, bit after bit, and an empty queue leaves the line high
(R144, R147). When its last stop bit has gone out, the frame leaves the queue and the next begins; with an empty queue
the pending settings are taken up (R146, section 8.5). No pause between bytes and the mark of earlier bytes are the
model's own (logs 22, 21). -/
def Obligations.FrameSentMovesTheQueueOn : Prop :=
  (∀ (l : Link) (s : State) (f : Frame) (rest : List Frame) (c : LinkSettings) (k j : Nat) (b : Byte),
      (s.port l).queue = f :: rest → (s.port l).settings = c → (lineBytes f)[k]? = some b → j < bitsOfByte c →
      (k * bitsOfByte c + j) * 1000000 ≤ s.elapsed (s.port l).txStart * baud c.rate →
      s.elapsed (s.port l).txStart * baud c.rate < (k * bitsOfByte c + j + 1) * 1000000 →
      s.transmitLevel l = bitOnLine c.parity b j)
  ∧ (∀ (l : Link) (s : State), (s.port l).queue = [] → s.transmitLevel l = true)
  ∧ ∀ (l : Link) (s : State) (f : Frame) (rest : List Frame) (c : LinkSettings),
    (s.port l).queue = f :: rest → (s.port l).settings = c →
    (f.payload.length + 5) * bitsOfByte c * 1000000 ≤ s.elapsed (s.port l).txStart * baud c.rate →
    ¬ (l = .lp0 ∧ s.sleep.waiting = true ∧ rest = []) →
    answers (.frameSent l) s (fun t =>
      (t.port l).queue = rest ∧ (t.port l).txStart = s.clock
        ∧ (∀ d, (s.port l).pendingSettings = some d → rest = [] →
            (t.port l).settings = d ∧ (t.port l).pendingSettings = none ∧ (t.port l).receiver = .hunting
              ∧ (t.port l).notBefore = some s.clock)
        ∧ ((s.port l).pendingSettings = none ∨ rest ≠ [] →
            (t.port l).settings = c ∧ (t.port l).pendingSettings = (s.port l).pendingSettings
              ∧ (t.port l).receiver = (s.port l).receiver ∧ (t.port l).notBefore = (s.port l).notBefore)
        ∧ (t.port l).counters = (s.port l).counters ∧ (t.port l).reportLost = (s.port l).reportLost
        ∧ (t.port l).replyLost = (s.port l).replyLost ∧ (t.port l).monitor = (s.port l).monitor
        ∧ (t.port l).lineLow = (s.port l).lineLow ∧ (t.port l).wakesFrom = (s.port l).wakesFrom
        ∧ (t.port l).wokeAt = (s.port l).wokeAt
        ∧ (∀ m : Link, m ≠ l → t.port m = s.port m)
        ∧ unchangedExcept [.lp0, .lp1] s t)

/-- While the SLEEP reply waits, the end of the last frame on LP0 takes the part to DORMANT, with both receivers in HUNT
and no refresh period (R166); of the lamp field only drives and sampling schedules may settle. -/
def Obligations.SleepReplySentEntersDormant : Prop :=
  ∀ (s : State) (f : Frame), s.lp0.queue = [f] → s.frameOver .lp0 = true → s.sleep.waiting = true →
    answers (.frameSent .lp0) s (fun t =>
      t.phase = .dormant ∧ t.sleep = ⟨false, some s.clock⟩ ∧ t.lp0.queue = []
        ∧ t.lp0.receiver = .hunting ∧ t.lp1 = { s.lp1 with receiver := .hunting }
        ∧ t.panel = { s.panel with dirty := s.panel.dirty ||| 1, refresh := none }
        ∧ lampSettingsKept s.lamps t.lamps ∧ t.lamps.output = s.lamps.output ∧ t.lamps.test = s.lamps.test
        ∧ (∀ i : Fin 24, t.lamps.channels[i] =
            { s.lamps.channels[i] with steadyAt := t.lamps.channels[i].steadyAt })
        ∧ unchangedExcept [.phase, .sleep, .lp0, .lp1, .lamps, .panel] s t)

/-- A byte without error reaches a listening receiver: begun late enough, right parity, first stop bit high. -/
abbrev goodByteArrives (l : Link) (data : Byte) (parityBit stopBit : Bool) (s : State) : Prop :=
  s.listening l = true ∧ s.beganTooEarly l = false
    ∧ parityWrong (s.port l).settings.parity data parityBit = false ∧ stopBit = true

/-- What a byte that completes no frame leaves alone: the other port, and of its own port all but the receiver and the
marks of an earlier byte or wake. -/
def onlyReceiverMoves (l : Link) (s t : State) : Prop :=
  t.port l = { s.port l with receiver := (t.port l).receiver, notBefore := none, wokeAt := none }
    ∧ (∀ m : Link, m ≠ l → t.port m = s.port m) ∧ unchangedExcept [.lp0, .lp1] s t

/-- The receiver takes the bytes of a frame state by state, C5 hex inside a body being data (the table of R148 up to the
last check byte; a length byte of 0 or above 64 is in LineErrorsCountedAndFrameDropped). -/
def Obligations.ReceiverAssemblesFrame : Prop :=
  ∀ (l : Link) (data : Byte) (parityBit stopBit : Bool) (lines : Lines) (s : State) (r : Receiver),
    goodByteArrives l data parityBit stopBit s → (s.port l).receiver = r →
    (r.state = .hunt → data = 0xC5 → answers (.receiveByte l data parityBit stopBit lines) s (fun t =>
        onlyReceiverMoves l s t ∧ (t.port l).receiver.state = .length ∧ (t.port l).receiver.body = []
          ∧ (t.port l).receiver.lastByteAt = s.clock))
      ∧ (r.state = .hunt → data ≠ 0xC5 → answers (.receiveByte l data parityBit stopBit lines) s (fun t =>
          onlyReceiverMoves l s t ∧ (t.port l).receiver = r))
      ∧ (r.state = .length → 1 ≤ data.toNat → data.toNat ≤ 64 →
          answers (.receiveByte l data parityBit stopBit lines) s (fun t =>
            onlyReceiverMoves l s t
              ∧ (t.port l).receiver = { r with state := .body, length := data.toNat, lastByteAt := s.clock }))
      ∧ (r.state = .body → answers (.receiveByte l data parityBit stopBit lines) s (fun t =>
          onlyReceiverMoves l s t
            ∧ (t.port l).receiver.body = r.body ++ [data] ∧ (t.port l).receiver.length = r.length
            ∧ (t.port l).receiver.lastByteAt = s.clock
            ∧ (t.port l).receiver.state = if r.body.length + 1 = r.length then .checkHigh else .body))
      ∧ (r.state = .checkHigh → answers (.receiveByte l data parityBit stopBit lines) s (fun t =>
          onlyReceiverMoves l s t
            ∧ (t.port l).receiver = { r with state := .checkLow, checkHigh := data, lastByteAt := s.clock }))

/-- The last byte of a frame whose check matches: with an order kind the part does exactly what the order's row does,
with the receiver back in HUNT; any other kind is refused with UNKNOWN KIND (R148, R151). That the hand-over is one step
with the byte is the model's choice (log 4). -/
def Obligations.CompleteFrameIsHandedOver : Prop :=
  ∀ (l : Link) (data : Byte) (parityBit stopBit : Bool) (lines : Lines) (s u : State) (kind : Byte)
    (payload : List Byte),
    goodByteArrives l data parityBit stopBit s →
    (s.port l).receiver.state = .checkLow → (s.port l).receiver.body = kind :: payload →
    (s.port l).receiver.checkHigh ++ data
      = frameCheck (BitVec.ofNat 8 (s.port l).receiver.length :: kind :: payload) →
    u = s.setPort l { s.port l with receiver := .hunting, notBefore := none, wokeAt := none } →
    (∀ k, OrderKind.ofCode kind = some k →
        exec (.receiveByte l data parityBit stopBit lines) s = exec (orderOf k l payload lines) u)
      ∧ (OrderKind.ofCode kind = none → answers (.receiveByte l data parityBit stopBit lines) s (fun t =>
          repliedWith ⟨0x41, [kind, 4, 0, 0, 0]⟩ l u t ∧ unchangedExcept [.lp0, .lp1] s t))

/-- One row of R155: the code, the kind, the payload lengths, whether LP1 carries it, and the phases. -/
structure OrderRow where
  code : Byte
  kind : OrderKind
  lengths : List Nat
  onLp1 : Bool
  configuring : Bool
  running : Bool
deriving DecidableEq, Repr

/-- The table of R155 but for DEFINE ASPECT, whose length goes by its fifth byte. -/
def orderRows : List OrderRow :=
  [⟨0x10, .defineSlot, [29], false, true, false⟩, ⟨0x12, .defineFault, [12], false, true, false⟩,
   ⟨0x13, .setSpeedParameters, [16], false, true, false⟩, ⟨0x14, .setLampChannel, [15], false, true, false⟩,
   ⟨0x15, .setCadence, [3], false, true, true⟩, ⟨0x16, .setKey, [9], false, true, false⟩,
   ⟨0x17, .setLink, [6], false, true, false⟩, ⟨0x18, .setGeneral, [14], false, true, false⟩,
   ⟨0x19, .start, [0], false, true, false⟩, ⟨0x1A, .stop, [0], false, false, true⟩,
   ⟨0x1B, .restart, [0], false, true, true⟩, ⟨0x1C, .sleep, [0], false, true, true⟩]
  ++ [⟨0x20, .update, [5, 8, 11, 14, 17, 20, 23, 26, 29, 32, 35, 38], true, false, true⟩,
   ⟨0x21, .keepAlive, [1], true, false, true⟩, ⟨0x22, .raiseFault, [3, 5], true, false, true⟩,
   ⟨0x23, .clearFault, [3], true, false, true⟩, ⟨0x24, .acknowledgeFault, [4], false, false, true⟩,
   ⟨0x25, .setConditions, [2], false, false, true⟩, ⟨0x26, .changeover, [2], false, false, true⟩,
   ⟨0x27, .referenceSpeed, [4], true, false, true⟩, ⟨0x28, .setWheel, [4], false, true, true⟩,
   ⟨0x29, .setDim, [1], false, false, true⟩, ⟨0x2A, .lampTest, [1], false, false, true⟩,
   ⟨0x2B, .lampReset, [1], false, false, true⟩, ⟨0x2C, .resumeOutputs, [0], false, false, true⟩,
   ⟨0x2D, .clearSpeedFlags, [0, 1, 2, 3, 4, 5, 6, 7, 8, 9, 10], false, false, true⟩]
  ++ [⟨0x30, .queryStatus, [0], true, true, true⟩, ⟨0x31, .querySlot, [1], true, true, true⟩,
   ⟨0x32, .queryFaults, [2], true, true, true⟩, ⟨0x33, .queryCounters, [0], true, true, true⟩,
   ⟨0x34, .querySpeed, [0], true, true, true⟩]

/-- Each order kind is accepted with the payload lengths, on the links and in the phases of R155; a code that is not in
the table is no order kind. -/
def Obligations.OrderKindsFollowTable : Prop :=
  (∀ row ∈ orderRows, row.kind.code = row.code ∧ OrderKind.ofCode row.code = some row.kind
      ∧ (∀ p : List Byte, row.kind.lengthFits p = true ↔ p.length ∈ row.lengths)
      ∧ row.kind.onLink .lp0 = true ∧ row.kind.onLink .lp1 = row.onLp1
      ∧ row.kind.inPhase .configuring = row.configuring ∧ row.kind.inPhase .running = row.running
      ∧ row.kind.inPhase .dormant = false)
    ∧ OrderKind.code .defineAspect = 0x11 ∧ OrderKind.ofCode 0x11 = some .defineAspect
    ∧ (∀ p : List Byte, OrderKind.lengthFits .defineAspect p = true ↔
        5 ≤ p.length ∧ p.length = 5 + 3 * (p.getD 4 0).toNat)
    ∧ OrderKind.onLink .defineAspect .lp0 = true ∧ OrderKind.onLink .defineAspect .lp1 = false
    ∧ OrderKind.inPhase .defineAspect .configuring = true ∧ OrderKind.inPhase .defineAspect .running = false
    ∧ OrderKind.inPhase .defineAspect .dormant = false
    ∧ (∀ code : Byte, code ≠ 0x11 → (∀ row ∈ orderRows, row.code ≠ code) → OrderKind.ofCode code = none)

/-- BAD LENGTH, then WRONG LINK, then WRONG PHASE: the first hand-over test that fails answers the order with REFUSE on
its arrival link and has no other effect; where nothing is received nothing is answered (R151, R155, R156). The order
as a command of its own is the model's choice (log 4). -/
def Obligations.OrderRefusedAtHandOver : Prop :=
  ∀ (k : OrderKind) (l : Link) (p : List Byte) (lines : Lines) (s : State),
    (s.listening l = false → exec (orderOf k l p lines) s = .next s)
      ∧ (s.listening l = true → k.lengthFits p = false → answers (orderOf k l p lines) s (fun t =>
          repliedWith ⟨0x41, [k.code, 3, 0, 0, 0]⟩ l s t ∧ unchangedExcept [.lp0, .lp1] s t))
      ∧ (s.listening l = true → k.lengthFits p = true → k.onLink l = false →
          answers (orderOf k l p lines) s (fun t =>
            repliedWith ⟨0x41, [k.code, 2, 0, 0, 0]⟩ l s t ∧ unchangedExcept [.lp0, .lp1] s t))
      ∧ (s.listening l = true → k.lengthFits p = true → k.onLink l = true → k.inPhase s.phase = false →
          answers (orderOf k l p lines) s (fun t =>
            repliedWith ⟨0x41, [k.code, 1, 0, 0, 0]⟩ l s t ∧ unchangedExcept [.lp0, .lp1] s t))

/-- The counter of an error. -/
def counterOf (c : ErrorCounters) : LineError → Nat
  | .parity => c.parity
  | .stop => c.stop
  | .length => c.length
  | .check => c.check
  | .gap => c.gap
  | .lineBreak => c.lineBreak

/-- An error is counted on a link: its counter alone goes up by 1, held at 65535, the partial frame is gone, the receiver
is in HUNT, and in RUNNING the interval error count goes up by 1, held at 255. -/
def countedError (l : Link) (e : LineError) (s t : State) : Prop :=
  counterOf (t.port l).counters e = min 65535 (counterOf (s.port l).counters e + 1)
    ∧ (∀ other : LineError, other ≠ e → counterOf (t.port l).counters other = counterOf (s.port l).counters other)
    ∧ (t.port l).monitor = { (s.port l).monitor with
        errors := if s.phase = .running then min 255 ((s.port l).monitor.errors + 1) else (s.port l).monitor.errors }
    ∧ t.port l = { s.port l with
        receiver := .hunting, counters := (t.port l).counters, monitor := (t.port l).monitor
        notBefore := (t.port l).notBefore, wakesFrom := (t.port l).wakesFrom
        wokeAt := (t.port l).wokeAt, lineLow := (t.port l).lineLow }
    ∧ (∀ m : Link, m ≠ l → t.port m = s.port m) ∧ unchangedExcept [.lp0, .lp1] s t

/-- A number of character times, each of 10 bits without parity and 11 bits with it (R144), has passed. -/
def characterTimesPassed (n : Nat) (c : LinkSettings) (us : Nat) : Prop :=
  n * (if c.parity = .none then 10 else 11) * 1000000 ≤ us * baud c.rate

/-- The moment at which a line that fell 2 character times ago has been low for 1 ms; none when that is past. -/
def fallenFor (p : Port) (clock : Nat) : Option Nat :=
  let us := 2 * (if p.settings.parity = .none then 10 else 11) * 1000000 / baud p.settings.rate
  if us < 1000 then some (plusUs clock (1000 - us)) else none

/-- Each of the six line errors is counted once and drops the partial frame; a faulty byte in HUNT is ignored, a break is
counted once in its low period, that of a wake not at all (R167), and the receiver is in HUNT when the line rises (R149).
A wake's low period is over with BREAK_END, with an order, or when a break comes 2 character times after the wake. That a
byte with both faults counts as parity, and how these tell that period from a later one, is the model's choice (logs 15
and 23), as is the moment from which the line can have been low for 1 ms (log 38). -/
def Obligations.LineErrorsCountedAndFrameDropped : Prop :=
  ∀ (l : Link) (data : Byte) (parityBit stopBit : Bool) (lines : Lines) (s : State), portsSound s →
    (s.listening l = true → s.beganTooEarly l = false → (s.port l).receiver.state ≠ .hunt →
        parityWrong (s.port l).settings.parity data parityBit = true →
        answers (.receiveByte l data parityBit stopBit lines) s (countedError l .parity s))
      ∧ (s.listening l = true → s.beganTooEarly l = false → (s.port l).receiver.state ≠ .hunt →
          parityWrong (s.port l).settings.parity data parityBit = false → stopBit = false →
          answers (.receiveByte l data parityBit stopBit lines) s (countedError l .stop s))
      ∧ (goodByteArrives l data parityBit stopBit s → (s.port l).receiver.state = .length →
          data.toNat = 0 ∨ 64 < data.toNat →
          answers (.receiveByte l data parityBit stopBit lines) s (countedError l .length s))
      ∧ (goodByteArrives l data parityBit stopBit s → (s.port l).receiver.state = .checkLow →
          (s.port l).receiver.checkHigh ++ data
            ≠ frameCheck (BitVec.ofNat 8 (s.port l).receiver.length :: (s.port l).receiver.body) →
          answers (.receiveByte l data parityBit stopBit lines) s (countedError l .check s))
      ∧ (s.listening l = true → s.beganTooEarly l = false → (s.port l).receiver.state = .hunt →
          parityWrong (s.port l).settings.parity data parityBit = true ∨ stopBit = false →
          answers (.receiveByte l data parityBit stopBit lines) s (fun t =>
            (t.port l).counters = (s.port l).counters ∧ (t.port l).receiver = (s.port l).receiver
              ∧ (t.port l).monitor = (s.port l).monitor ∧ unchangedExcept [.lp0, .lp1] s t))
      ∧ (s.listening l = true → (s.port l).receiver.state ≠ .hunt →
          (s.port l).settings.gapLimit * 1000 ≤ s.elapsed (s.port l).receiver.lastByteAt →
          answers (.gapError l) s (countedError l .gap s))
      ∧ (s.listening l = true →
          (∀ moment, (s.port l).wokeAt = some moment → characterTimesPassed 2 (s.port l).settings (s.elapsed moment)) →
          answers (.lineBreak l) s (fun t =>
            countedError l .lineBreak s t ∧ (t.port l).lineLow = true ∧ (t.port l).wakesFrom = fallenFor (s.port l) s.clock
              ∧ exec (.receiveByte l data parityBit stopBit lines) t = .next t ∧ exec (.lineBreak l) t = .next t))
      ∧ (s.listening l = false ∨ (∃ moment, (s.port l).wokeAt = some moment
            ∧ ¬ characterTimesPassed 2 (s.port l).settings (s.elapsed moment)) →
          (s.port l).lineLow = false → answers (.lineBreak l) s (fun t =>
            t.port l = { s.port l with lineLow := true, wakesFrom := fallenFor (s.port l) s.clock }
              ∧ (∀ m : Link, m ≠ l → t.port m = s.port m) ∧ unchangedExcept [.lp0, .lp1] s t))
      ∧ (∀ (k : OrderKind) (p : List Byte), s.listening l = true → answers (orderOf k l p lines) s (fun t =>
          (t.port l).wokeAt = none))
      ∧ ((s.port l).lineLow = true → answers (.breakEnd l) s (fun t =>
          t.port l = { s.port l with
            lineLow := false, wakesFrom := some (plusUs s.clock 1000), wokeAt := none, receiver := .hunting }
            ∧ (∀ m : Link, m ≠ l → t.port m = s.port m) ∧ unchangedExcept [.lp0, .lp1] s t))

/-- An entry of the fault list for a code and origin carries a parameter. -/
def holdsFault (t : State) (code origin : Nat) (parameter : Option Word) : Prop :=
  ∃ e ∈ t.faults.entries, e.code = code ∧ e.origin = origin ∧ e.state ≠ .clearedUnacked ∧ e.parameter = parameter

/-- The fault list has room for a new entry. -/
abbrev hasRoom (s : State) : Prop := s.faults.entries.length < 48

/-- No active entry is held for a code and origin: each was removed or is CLEARED-UNACKED. -/
abbrev faultInactive (t : State) (code origin : Nat) : Prop :=
  ∀ e ∈ t.faults.entries, e.code = code → e.origin = origin → e.state = .clearedUnacked

/-- At the end of a link interval in RUNNING the errors are judged by the table of R150 and the next period begins. -/
def Obligations.LinkIntervalJudgesErrors : Prop :=
  ∀ (l : Link) (s : State) (m : LinkMonitor) (moment : Nat), listSound s → s.phase = .running →
    (s.port l).monitor = m → m.expiry = some moment → s.due moment = true →
    answers (.linkIntervalExpiry l) s (fun t =>
      (t.port l).monitor.errors = 0 ∧ (t.port l).monitor.expiry = some (plusUs moment 1000000)
        ∧ (8 ≤ m.errors → (t.port l).monitor.cleanRun = 0 ∧ (t.port l).monitor.mark = true)
        ∧ (1 ≤ m.errors → m.errors ≤ 7 → (t.port l).monitor.cleanRun = 0 ∧ (t.port l).monitor.mark = m.mark)
        ∧ (m.errors = 0 → m.mark = true → m.cleanRun < 9 →
            (t.port l).monitor.cleanRun = m.cleanRun + 1 ∧ (t.port l).monitor.mark = true)
        ∧ (m.errors = 0 → m.mark = true → m.cleanRun = 9 →
            (t.port l).monitor.cleanRun = 0 ∧ (t.port l).monitor.mark = false
              ∧ faultInactive t 1009 (180 + linkCode l))
        ∧ (m.errors = 0 → m.mark = false →
            (t.port l).monitor.cleanRun = m.cleanRun ∧ (t.port l).monitor.mark = false)
        ∧ (8 ≤ m.errors → m.mark = false → hasRoom s →
            holdsFault t 1009 (180 + linkCode l) (some (BitVec.ofNat 16 m.errors)))
        ∧ ((t.port l).monitor.mark = m.mark → t.faults = s.faults)
        ∧ (∀ o : Link, o ≠ l → (t.port o).monitor = (s.port o).monitor)
        ∧ unchangedExcept [.lp0, .lp1, .faults, .chime, .panel] s t)

/-! ## The Indication Table (chapter 1) -/

/-- An accepted order is answered with ACCEPT on its arrival link, and no other frame is queued. -/
def acceptedQuietly (k : OrderKind) (l : Link) (s t : State) : Prop := repliedWith ⟨0x40, [k.code]⟩ l s t

/-- The range of a NUMBER definition as R158 reads it. -/
def rangeRead (p : List Byte) : Option (Int × Int) :=
  if (byteAt p 20).toNat = 0 then none else some ((wordAt p 21).toInt, (wordAt p 23).toInt)

/-- A DEFINE SLOT record stands for a definition, by the fields of section 1.1 at the bytes of R158. -/
def definitionRead (p : List Byte) (d : SlotDef) : Prop :=
  d.owner = byteAt p 2 ∧ d.refresh = byteAt p 3 ∧ d.deadline = (byteAt p 4).toNat
    ∧ (d.lapseAlarm = true ↔ byteAt p 28 = 1)
    ∧ ((byteAt p 1).toNat = 1 → d.body = .number
        (if wordAt p 5 = 0x8000 then none else some (wordAt p 5).toInt)
        (if byteAt p 8 = 0xff then none else some (byteAt p 8).toNat) (rangeRead p) (byteAt p 25).toNat)
    ∧ ((byteAt p 1).toNat = 2 → d.body = .aspect (wordAt p 5).toNat
        ((List.range (byteAt p 7).toNat).map (fun n => (byteAt p (8 + n)).toNat))
        (byteAt p 26 == 1) (byteAt p 27).toNat)
    ∧ ((byteAt p 1).toNat = 3 → d.body = .state (wordAt p 5).toNat (byteAt p 8).toNat)

/-- An accepted DEFINE SLOT leaves the slot AWAITING with the new definition and a cleared run state, or UNDEFINED for
kind NONE; every other slot stands, and the order is answered with ACCEPT (R2). -/
def Obligations.DefineSlotReplacesDefinition : Prop :=
  ∀ (l : Link) (p : List Byte) (s : State) (i : Fin 64), received .defineSlot l p s →
    passes (defineSlotChecks p) → (byteAt p 0).toNat = i.val →
    answers (.defineSlot l p) s (fun t =>
      (1 ≤ (byteAt p 1).toNat → t.table[i].state = .awaiting
          ∧ ∃ d, t.table[i].definition = some d ∧ definitionRead p d)
        ∧ ((byteAt p 1).toNat = 0 → t.table[i].state = .undefined ∧ t.table[i].definition = none)
        ∧ t.table[i].value = none ∧ t.table[i].lastSource = none ∧ t.table[i].lastUpdate = none
        ∧ t.table[i].monitor = .stopped ∧ t.table[i].lapses = 0 ∧ t.table[i].rank = none
        ∧ t.table[i].degraded = false
        ∧ (∀ j : Fin 64, j ≠ i → t.table[j] = s.table[j])
        ∧ acceptedQuietly .defineSlot l s t ∧ unchangedExcept [.lp0, .lp1, .table] s t)

/-- Slot 0 has its fixed definition from full reset, no command alters it, and a DEFINE SLOT that names it is refused
with RESERVED SLOT, item index 1 (R3). -/
def Obligations.SlotZeroDefinitionIsFixed : Prop :=
  State.reset.table[(0 : Fin 64)].definition =
      some ⟨BitVec.twoPow 8 5, 0, 16, .number none (some 0) (some (0, 4000)) 1, false⟩
    ∧ (∀ (c : Instr) (s t : State), s.table[(0 : Fin 64)].definition = State.reset.table[(0 : Fin 64)].definition →
        exec c s = .next t → t.table[(0 : Fin 64)].definition = s.table[(0 : Fin 64)].definition)
    ∧ (∀ (l : Link) (p : List Byte) (s : State), received .defineSlot l p s → byteAt p 0 = 0 →
        answers (.defineSlot l p) s (fun t =>
          repliedWith ⟨0x41, [0x10, 12, 1, 0, 0]⟩ l s t ∧ unchangedExcept [.lp0, .lp1] s t))

/-- A value is valid for a definition (the table of R5). -/
def validValue (s : State) (d : SlotDef) (v : Word) : Bool :=
  match d.body with
  | .number _ _ none _ => v != 0x8000
  | .number _ _ (some r) _ => v != 0x8000 && decide (r.1 ≤ v.toInt) && decide (v.toInt ≤ r.2)
  | .aspect .. => s.aspects.any (fun e => e.system == s.changeover.active && e.code == v.toNat)
  | .state _ position => v.toNat ≤ 3 || (v.toNat ≤ 6 && s.isBicolour position)

/-- The slot is an ASPECT slot by its definition. -/
def isAspectBody : SlotBody → Bool
  | .aspect .. => true
  | .number .. | .state .. => false

/-- The six tests of a pair in their order, NO SLOT first; `earlier` are the slots that pairs before it name (R9). -/
def pairRefusal (s : State) (source : Nat) (earlier : List Nat) (n : Nat) (v : Word) : Option Reason :=
  if h : n < 64 then
    match s.table[n].definition with
    | none => some .noSlot
    | some d =>
      if n = 0 then some .reservedSlot
      else if d.owner.getLsbD source = false then some .notOwner
      else if isAspectBody d.body && source != 0 && source != s.changeover.active then some .notActiveSystem
      else if validValue s d v = false then some .badValue
      else if n ∈ earlier then some .duplicateSlot
      else none
  else some .noSlot

/-- The pair of an UPDATE at a place in the record (R157). -/
def pairRead (p : List Byte) (k : Nat) : Nat × Word := ((byteAt p (2 + 3 * k)).toNat, wordAt p (3 + 3 * k))

/-- The slots that the pairs before a place name. -/
def namedBefore (p : List Byte) (k : Nat) : List Nat := (List.range k).map (fun j => (pairRead p j).1)

/-- The refusal of the pair at a place of an UPDATE. -/
def refusalAt (s : State) (p : List Byte) (k : Nat) : Option Reason :=
  pairRefusal s (byteAt p 0).toNat (namedBefore p k) (pairRead p k).1 (pairRead p k).2

/-- The pairs an UPDATE record holds. -/
def pairCount (p : List Byte) : Nat := (p.length - 2) / 3

/-- The source of a record is allowed on its arrival link (R8). -/
abbrev sourceFits (l : Link) (source : Nat) : Prop := source ≤ 4 ∧ (l = .lp1 → source ≠ 0)

/-- A bad source is refused with BAD SOURCE and no pair checked; then the first pair that fails a test, at the first test
it fails, refuses the UPDATE, and nothing but the reply changes (R8, R9). -/
def Obligations.UpdateRefusedAtFirstFailure : Prop :=
  ∀ (l : Link) (p : List Byte) (s : State), received .update l p s →
    (¬ sourceFits l (byteAt p 0).toNat → answers (.update l p) s (fun t =>
        repliedWith ⟨0x41, [0x20, 6, 0, 0, 0]⟩ l s t ∧ unchangedExcept [.lp0, .lp1] s t))
      ∧ (∀ (k : Nat) (r : Reason), sourceFits l (byteAt p 0).toNat → k < pairCount p →
          (∀ j, j < k → refusalAt s p j = none) → refusalAt s p k = some r →
          answers (.update l p) s (fun t =>
            repliedWith ⟨0x41, [0x20, BitVec.ofNat 8 r.code, BitVec.ofNat 8 k, 0, 0]⟩ l s t
              ∧ unchangedExcept [.lp0, .lp1] s t))

/-- The position lies in a BICOLOUR pair. -/
abbrev inBicolourPair (s : State) (position : Nat) : Prop :=
  ∃ pair : Fin 12, pair.val = position / 2 ∧ s.lamps.pairs[pair].mode = .bicolour

/-- The pattern that the aspect map holds for a system and a code (R35). -/
def patternHeld (s : State) (system code : Nat) : List PatternSetting :=
  match s.aspects.find? (fun e => e.system == system && e.code == code) with
  | some e => e.pattern
  | none => []

/-- The setting that a pattern presents at a position of an ASPECT slot's group: OFF where it names none, colour 1 in a
SINGLE pair, and ATTENTION for STEADY at a restrictive change (R20, R37). -/
def settingShown (s : State) (pattern : List PatternSetting) (restrictive : Bool) (count position : Nat) : Setting :=
  match pattern.find? (fun q => q.position == position) with
  | none => .off
  | some q =>
    let colour := if inBicolourPair s position then q.colour else .one
    match q.cadence with
    | .steady => if restrictive then .attention colour count else .steady colour
    | .slow => .slow colour
    | .fast => .fast colour
    | .attention => .attention colour count

/-- What an ASPECT slot presents from the map entry of a system and a code (R19, R20). -/
def aspectShown (s : State) (group : List Nat) (count system code : Nat) (restrictive : Bool) : Shown :=
  .aspect (group.map (fun position =>
    (position, settingShown s (patternHeld s system code) restrictive count position)))

/-- The request of a STATE value (the table of R21). -/
def stateShown : Nat → Setting
  | 1 => .steady .one
  | 2 => .slow .one
  | 3 => .fast .one
  | 4 => .steady .two
  | 5 => .slow .two
  | 6 => .fast .two
  | _ => .off

/-- What a slot presents in AWAITING and LAPSED: its fallback (R19 to R21). -/
def fallbackShown (s : State) (d : SlotDef) : Shown :=
  match d.body with
  | .number fallback _ _ _ => .number fallback
  | .aspect fallback group _ count => aspectShown s group count 0 fallback false
  | .state fallback _ => .state (stateShown fallback)

/-- What a slot presents while LIVE with a value (R19 to R21). -/
def valueShown (s : State) (d : SlotDef) (v : Word) (restrictive : Bool) : Shown :=
  match d.body with
  | .number .. => .number (some v.toInt)
  | .aspect _ group _ count => aspectShown s group count s.changeover.active v.toNat restrictive
  | .state .. => .state (stateShown v.toNat)

/-- The request that a slot's presentation of a value makes at a position, when it makes one there (R20, R21). -/
def requestAt (s : State) (d : SlotDef) (v : Word) (restrictive : Bool) (position : Nat) : Option Setting :=
  match d.body with
  | .number .. => none
  | .aspect _ group _ count =>
    if position ∈ group then
      some (settingShown s (patternHeld s s.changeover.active v.toNat) restrictive count position)
    else none
  | .state _ own => if position = own then some (stateShown v.toNat) else none

/-- The generator a waiting setting waits for (R107). -/
def generatorFor : Setting → Option Generator
  | .slow _ => some .slow
  | .fast _ | .attention _ _ => some .fast
  | .off | .steady _ => none

/-- The setting's cadence is ATTENTION. -/
def isAttention : Setting → Bool
  | .attention _ _ => true
  | .off | .steady _ | .slow _ | .fast _ => false

/-- A position after a request (R107): one equal to the requested setting has no effect unless it is ATTENTION; any other
becomes the requested setting, ends a run in its colour STEADY, and is active at once (OFF, STEADY) or waits. -/
def requestTaken (p : Position) (r : Setting) : Position :=
  if r = p.requested ∧ isAttention r = false then p
  else
    { requested := r
      waiting := if (generatorFor r).isSome then some r else none
      active :=
        match r, p.active with
        | .off, _ => .off
        | .steady c, _ => .steady c
        | _, .run c _ _ => .steady c
        | _, a => a }

/-- A panel item waits in the dirty set, or its frame began in this step with the content now held (R133, R134). -/
def itemMarked (n : Nat) (s t : State) : Prop :=
  t.panel.dirty.getLsbD n = true ∨ t.panel.sending = some ⟨panelItem n t, s.clock⟩

/-- CHANGEOVER REPORT (R40, section 9.6): event 0 STARTED, 1 COMPLETE, 2 WINDOW EXPIRED, 3 SUPERSEDED, 4 ABORTED; cause 1
for COMPLETE by the flag. -/
def changeoverFrame (event left target : Nat) (elapsed : Time) (slots cause : Nat) (now : Time) : Frame :=
  ⟨0x52, [BitVec.ofNat 8 event, BitVec.ofNat 8 left, BitVec.ofNat 8 target] ++ b32 elapsed
    ++ [BitVec.ofNat 8 slots, BitVec.ofNat 8 cause] ++ b32 now⟩

/-- A monitor as it is armed now for a deadline code (R13): STOPPED for code 16. -/
def armedFor (s : State) (code : Nat) : Monitor :=
  if code < 16 then .armed (s.now + BitVec.ofNat 32 (deadlineMs code)) else .stopped

/-- The rank the map holds for the active system and a value (R36). -/
def mapRank (s : State) (v : Word) : Option Nat :=
  (s.aspects.find? (fun e => e.system == s.changeover.active && e.code == v.toNat)).map AspectEntry.rank

/-- The pair repeats the value its slot holds in LIVE (R10). -/
abbrev repeatsValue (x : Slot) (v : Word) : Prop := x.state = .live ∧ x.value = some v

/-- A pair is a restrictive change that flashes: from LIVE, with the attention flag, to a higher rank (R37). -/
def restrictiveChange (s : State) (x : Slot) (d : SlotDef) (v : Word) : Bool :=
  match d.body, x.rank, mapRank s v with
  | .aspect _ _ attention _, some old, some new => x.state == .live && attention && decide (old < new)
  | _, _, _ => false

/-- What one pair presents on the desk (R19 to R22, R37): a repeated value nothing; any other value its content, which
marks the panel field of a NUMBER slot. -/
def pairPresented (s t : State) (i : Fin 64) (d : SlotDef) (v : Word) : Prop :=
  (repeatsValue s.table[i] v → t.table[i].shown = s.table[i].shown)
    ∧ (¬ repeatsValue s.table[i] v →
        t.table[i].shown = valueShown s d v (restrictiveChange s s.table[i] d v)
          ∧ (∀ fallback field range places, d.body = .number fallback (some field) range places → field ≤ 15 →
              s.table[i].state ≠ .live ∨ s.table[i].shown ≠ .number (some v.toInt) → itemMarked (1 + field) s t))

/-- The requests of the one pair of an UPDATE reach the positions of its slot and no other (R20, R21, R107). -/
def pairRequested (s t : State) (i : Fin 64) (d : SlotDef) (v : Word) : Prop :=
  ∀ position : Fin 24, t.lamps.positions[position] =
    match requestAt s d v (restrictiveChange s s.table[i] d v) position.val with
    | some r =>
      if repeatsValue s.table[i] v ∨ (isAspectBody d.body = false ∧ s.table[i].shown = valueShown s d v false) then
        s.lamps.positions[position]
      else requestTaken s.lamps.positions[position] r
    | none => s.lamps.positions[position]

/-- What an applied UPDATE that leaves `waiting` slots in TRANSIT does to the changeover in progress: completion by LAST
SLOT (R44), by COMPLETE FLAG when it is set from the target (R45), or none. -/
def transitFollows (s t : State) (transit : Transit) (waiting : Nat) (flagged : Bool) : Prop :=
  (waiting = 0 ∨ flagged = true →
      t.changeover.transit = none ∧ t.faults.conditions.getLsbD 14 = false
        ∧ reportQueued (changeoverFrame 1 transit.left s.changeover.active (s.now - transit.start) waiting
            (if waiting = 0 then 0 else 1) s.now) s t)
    ∧ (waiting ≠ 0 → flagged = false → t.changeover.transit = some transit)

/-- When every pair passes, each named slot is LIVE with the pair's value and re-armed, an ASPECT slot with the rank the
map holds, and is presented (R19 to R22, R37); a slot that was not LIVE holds no active fault 1008 any more, and a LAPSED
one named alone is reported RECOVERED (R17); no other slot changes but those that a COMPLETE flag from the target
releases from TRANSIT. A changeover in progress completes by LAST SLOT or by the flag (R44, R45), and fault 1003 clears
with the incomplete mark once every aspect slot is LIVE (R49). ACCEPT is queued before every report (R10, R11). -/
def Obligations.UpdateAppliesEveryPair : Prop :=
  ∀ (l : Link) (p : List Byte) (s : State), received .update l p s → sourceFits l (byteAt p 0).toNat →
    (∀ k, k < pairCount p → refusalAt s p k = none) →
    answers (.update l p) s (fun t =>
      (∀ (k : Nat) (i : Fin 64) (d : SlotDef), k < pairCount p → (pairRead p k).1 = i.val →
          s.table[i].definition = some d →
          t.table[i].definition = some d ∧ t.table[i].state = .live ∧ t.table[i].value = some (pairRead p k).2
            ∧ t.table[i].lastSource = some (byteAt p 0).toNat ∧ t.table[i].lastUpdate = some s.now
            ∧ t.table[i].monitor = armedFor s d.deadline ∧ t.table[i].lapses = s.table[i].lapses
            ∧ (isAspectBody d.body = true → t.table[i].rank = mapRank s (pairRead p k).2)
            ∧ pairPresented s t i d (pairRead p k).2
            ∧ (pairCount p = 1 → (byteAt p 1).getLsbD 0 = false → s.general.permittedSlot ≠ some i →
                pairRequested s t i d (pairRead p k).2)
            ∧ (listSound s → s.table[i].state ≠ .live → faultInactive t 1008 (64 + i.val))
            ∧ (s.table[i].state = .lapsed → pairCount p = 1 → s.lp0.queue.length < 7 →
                (s.lp0.queue ++ (if l = .lp0 then [⟨0x40, [0x20]⟩] else [])
                  ++ [⟨0x51, [BitVec.ofNat 8 i.val, 1, 0, BitVec.ofNat 8 s.table[i].lapses, 1, byteAt p 0]
                    ++ b32 s.now⟩]) <+: t.lp0.queue))
        ∧ (∀ i : Fin 64, i.val ∉ namedBefore p (pairCount p) → s.table[i].state ≠ .transit →
            t.table[i] = s.table[i])
        ∧ ((byteAt p 1).getLsbD 0 = false ∨ (byteAt p 0).toNat ≠ s.changeover.active →
            ∀ i : Fin 64, i.val ∉ namedBefore p (pairCount p) → t.table[i] = s.table[i])
        ∧ (∀ (i : Fin 64) (d : SlotDef), (byteAt p 1).getLsbD 0 = true → (byteAt p 0).toNat = s.changeover.active →
            s.changeover.transit.isSome → i.val ∉ namedBefore p (pairCount p) → s.table[i].state = .transit →
            s.table[i].definition = some d →
            t.table[i].state = .awaiting ∧ t.table[i].monitor = armedFor s d.deadline
              ∧ t.table[i].lapses = s.table[i].lapses)
        ∧ t.changeover.active = s.changeover.active
        ∧ (s.changeover.transit = none → t.changeover.transit = none)
        ∧ (∀ transit, s.changeover.transit = some transit → transitFollows s t transit
            ((List.finRange 64).filter (fun i =>
              s.table[i].state == .transit && decide (i.val ∉ namedBefore p (pairCount p)))).length
            ((byteAt p 1).getLsbD 0 && (byteAt p 0).toNat == s.changeover.active))
        ∧ (listSound s → s.changeover.incomplete = true →
            (∃ i : Fin 64, i.val ∈ namedBefore p (pairCount p) ∧ s.table[i].isAspect = true
              ∧ s.table[i].state ≠ .live) →
            (∀ i : Fin 64, s.table[i].isAspect = true → t.table[i].state = .live) →
            t.changeover.incomplete = false ∧ faultInactive t 1003 190)
        ∧ (s.changeover.incomplete = false ∨ (∃ i : Fin 64, s.table[i].isAspect = true ∧ t.table[i].state ≠ .live) →
            t.changeover.incomplete = s.changeover.incomplete)
        ∧ repliesFirst ⟨0x40, [0x20]⟩ l s t
        ∧ unchangedExcept [.lp0, .lp1, .table, .band, .changeover, .faults, .lamps, .meter, .chime, .panel] s t)

/-- KEEP ALIVE: a bad source is refused; a good one re-arms at now plus its deadline every LIVE slot with a deadline
whose refresh set holds the source, and touches nothing else (R12). -/
def Obligations.KeepAliveRearmsItsRefreshSlots : Prop :=
  ∀ (l : Link) (p : List Byte) (s : State), received .keepAlive l p s →
    (¬ sourceFits l (byteAt p 0).toNat → answers (.keepAlive l p) s (fun t =>
        repliedWith ⟨0x41, [0x21, 6, 0, 0, 0]⟩ l s t ∧ unchangedExcept [.lp0, .lp1] s t))
      ∧ (sourceFits l (byteAt p 0).toNat → answers (.keepAlive l p) s (fun t =>
          (∀ (i : Fin 64) (d : SlotDef), s.table[i].definition = some d → s.table[i].state = .live →
              d.refresh.getLsbD (byteAt p 0).toNat = true → d.deadline ≤ 15 →
              t.table[i] = { s.table[i] with
                monitor := .armed (s.now + BitVec.ofNat 32 (deadlineMs d.deadline)) })
            ∧ (∀ (i : Fin 64) (d : SlotDef), s.table[i].definition = some d →
                s.table[i].state ≠ .live ∨ d.refresh.getLsbD (byteAt p 0).toNat = false ∨ 16 ≤ d.deadline →
                t.table[i] = s.table[i])
            ∧ (∀ i : Fin 64, s.table[i].definition = none → t.table[i] = s.table[i])
            ∧ acceptedQuietly .keepAlive l s t ∧ unchangedExcept [.lp0, .lp1, .table] s t))

/-- The payload of SLOT REPORT LAPSED for a slot (R14, section 9.6). -/
def lapsedReport (i : Fin 64) (cause lapses : Nat) (lastSource : Option Nat) (now : Time) : Frame :=
  ⟨0x51, [BitVec.ofNat 8 i.val, 0, BitVec.ofNat 8 cause, BitVec.ofNat 8 lapses]
    ++ (match lastSource with
        | some n => [1, BitVec.ofNat 8 n]
        | none => [0, 0]) ++ b32 now⟩

/-- The expiry of an ARMED monitor in RUNNING lapses a LIVE slot with cause DEADLINE and an AWAITING slot with cause NO
FIRST VALUE: value and rank withdrawn, lapse counted, monitor STOPPED, SLOT REPORT LAPSED queued, fault 1008 raised
when the alarm is set, the fallback presented (R14, R15). That the report comes before the clear of fault 1004 of a
DEGRADED slot is the model's choice (log 12, DEDUCED). -/
def Obligations.MonitorExpiryLapsesSlot : Prop :=
  ∀ (i : Fin 64) (s : State) (d : SlotDef) (expiry : Time), s.phase = .running →
    s.table[i].definition = some d → s.table[i].monitor = .armed expiry → s.reached expiry = true →
    s.table[i].state = .live ∨ s.table[i].state = .awaiting → s.table[i].lapses ≤ 255 →
    answers (.monitorExpiry i) s (fun t =>
      t.table[i].definition = some d ∧ t.table[i].state = .lapsed ∧ t.table[i].value = none
        ∧ t.table[i].rank = none ∧ t.table[i].monitor = .stopped ∧ t.table[i].degraded = false
        ∧ t.table[i].lapses = min 255 (s.table[i].lapses + 1)
        ∧ t.table[i].lastSource = s.table[i].lastSource ∧ t.table[i].lastUpdate = s.table[i].lastUpdate
        ∧ t.table[i].shown = fallbackShown s d
        ∧ (∀ j : Fin 64, j ≠ i → t.table[j] = s.table[j])
        ∧ repliesFirst (lapsedReport i (if s.table[i].state = .live then 0 else 1)
            (min 255 (s.table[i].lapses + 1)) s.table[i].lastSource s.now) .lp0 s t
        ∧ (d.lapseAlarm = true → hasRoom s →
            holdsFault t 1008 (64 + i.val) (some (BitVec.ofNat 16 (min 255 (s.table[i].lapses + 1)))))
        ∧ (d.lapseAlarm = false → s.table[i].degraded = false → t.faults = s.faults)
        ∧ t.lp1 = s.lp1
        ∧ unchangedExcept [.lp0, .table, .band, .lamps, .meter, .faults, .chime, .panel] s t)

/-- The speed unit's write to slot 0: a value makes it LIVE from source 5, reporting RECOVERED after a lapse, with no
active fault 1008 left for it (R17); "no value" lapses it with cause WITHDRAWN while LIVE and does nothing otherwise (the
table of R18). -/
def Obligations.SpeedWriteActsOnSlotZero : Prop :=
  ∀ s : State,
    (∀ v : Nat, v ≤ 4000 →
        (writeSlotZero (some v) s).table[(0 : Fin 64)].state = .live
          ∧ (writeSlotZero (some v) s).table[(0 : Fin 64)].value = some (BitVec.ofNat 16 v)
          ∧ (writeSlotZero (some v) s).table[(0 : Fin 64)].lastSource = some 5
          ∧ (writeSlotZero (some v) s).table[(0 : Fin 64)].lastUpdate = some s.now
          ∧ (writeSlotZero (some v) s).table[(0 : Fin 64)].monitor = .stopped
          ∧ (writeSlotZero (some v) s).table[(0 : Fin 64)].lapses = s.table[(0 : Fin 64)].lapses
          ∧ (s.table[(0 : Fin 64)].state = .lapsed → s.lp0.queue.length < 8 →
              (s.lp0.queue ++ [⟨0x51, [0, 1, 0, BitVec.ofNat 8 s.table[(0 : Fin 64)].lapses, 1, 5] ++ b32 s.now⟩])
                <+: (writeSlotZero (some v) s).lp0.queue)
          ∧ (listSound s → s.table[(0 : Fin 64)].state ≠ .live → faultInactive (writeSlotZero (some v) s) 1008 64)
          ∧ (s.table[(0 : Fin 64)].state = .live → s.table[(0 : Fin 64)].value = some (BitVec.ofNat 16 v) →
              unchangedExcept [.table] s (writeSlotZero (some v) s)))
      ∧ (s.table[(0 : Fin 64)].state = .live →
          (writeSlotZero none s).table[(0 : Fin 64)].state = .lapsed
            ∧ (writeSlotZero none s).table[(0 : Fin 64)].value = none
            ∧ (s.lp0.queue.length < 8 →
                (s.lp0.queue ++ [lapsedReport 0 3 (saturate 255 s.table[(0 : Fin 64)].lapses)
                  s.table[(0 : Fin 64)].lastSource s.now]) <+: (writeSlotZero none s).lp0.queue))
      ∧ (s.table[(0 : Fin 64)].state ≠ .live → writeSlotZero none s = s)
      ∧ (∀ (speed : Option Nat) (j : Fin 64), j ≠ 0 → (writeSlotZero speed s).table[j] = s.table[j])

/-- The band after an evaluation (the table of R25). -/
def bandAfter (before : BandState) (speed permitted : Option Int) (margin hysteresis : Nat) : BandState :=
  match speed, permitted with
  | some v, some p =>
    if before = .warning then (if v ≤ p + margin - hysteresis then .normal else .warning)
    else if p + margin < v then .warning else .normal
  | _, _ => .unknown

/-- The band moves by its table; a change into WARNING requests the band lamp FAST, a change out of WARNING requests it
OFF, and every change queues one BAND REPORT; an evaluation without a change does nothing (R25, R26). -/
def Obligations.BandEvaluationFollowsTable : Prop :=
  ∀ (s t : State) (next : BandState), t = evaluateBand s →
    next = bandAfter s.band s.bandSpeed s.permittedSpeed s.general.margin s.general.hysteresis →
    t.band = next
      ∧ (next = s.band → t = s)
      ∧ (next ≠ s.band → t.panel.dirty.getLsbD 0 = true
          ∧ t.lp0 = s.lp0.enqueue s.clock ⟨0x55, b8 next.code
              ++ optional 2 (s.bandSpeed.map (fun v => b16 (BitVec.ofInt 16 v)))
              ++ optional 2 (s.permittedSpeed.map (fun v => b16 (BitVec.ofInt 16 v))) ++ b8 s.general.margin⟩)
      ∧ (∀ (position : Fin 24) (colour : Colour), s.general.bandLamp = some (position, colour) →
          (next ≠ s.band → next = .warning →
            t.lamps.positions[position] = s.lamps.positions[position].request (.fast colour))
          ∧ (next ≠ s.band → s.band = .warning →
            t.lamps.positions[position] = s.lamps.positions[position].request .off)
          ∧ (next ≠ .warning → s.band ≠ .warning → t.lamps = s.lamps))
      ∧ (s.general.bandLamp = none → t.lamps = s.lamps)
      ∧ (next ≠ .warning ∨ s.general.bandChime = false → t.chime = s.chime)
      ∧ (next = .warning → next ≠ s.band → s.general.bandChime = true → s.lamps.output = .lit →
          s.chime.sounding = none → t.chime = { s.chime with sounding := some (.triple, s.clock), succeeded := false })
      ∧ unchangedExcept [.lp0, .band, .lamps, .chime, .panel] s t

/-! ## Aspects and changeover (chapter 2) -/

/-- The pattern a DEFINE ASPECT record holds (section 2.2). -/
def patternRead (p : List Byte) : List PatternSetting :=
  (List.range (byteAt p 4).toNat).map (fun n =>
    ⟨(byteAt p (5 + 3 * n)).toNat, if byteAt p (6 + 3 * n) = 2 then .two else .one,
     cadenceOf (byteAt p (7 + 3 * n)).toNat⟩)

/-- The aspect map holds a key with a rank and pattern. -/
def mapHolds (m : List AspectEntry) (system code : Nat) (e : AspectEntry) : Prop :=
  e ∈ m ∧ e.system = system ∧ e.code = code

/-- A map and another agree on every key but one. -/
def mapsAgreeBut (m n : List AspectEntry) (system code : Nat) : Prop :=
  ∀ e : AspectEntry, ¬ (e.system = system ∧ e.code = code) → (e ∈ n ↔ e ∈ m)

/-- A DEFINE ASPECT that passes its checks replaces, adds or deletes the entry of its key, or is refused with TABLE FULL
or NO ENTRY, by its REMOVE flag and whether the key is held (the table of R34). -/
def Obligations.DefineAspectActsOnMap : Prop :=
  ∀ (l : Link) (p : List Byte) (s : State) (system code : Nat) (held : Prop), configurationSound s →
    received .defineAspect l p s → passes (defineAspectChecks p) → system = (byteAt p 0).toNat →
    code = (byteAt p 1).toNat → (held ↔ ∃ e, mapHolds s.aspects system code e) →
    (byteAt p 2 = 0 → held ∨ s.aspects.length < 192 → answers (.defineAspect l p) s (fun t =>
        (∀ e, mapHolds t.aspects system code e ↔ e = ⟨system, code, (byteAt p 3).toNat, patternRead p⟩)
          ∧ mapsAgreeBut s.aspects t.aspects system code
          ∧ (held → t.aspects.length = s.aspects.length) ∧ (¬ held → t.aspects.length = s.aspects.length + 1)
          ∧ acceptedQuietly .defineAspect l s t ∧ unchangedExcept [.lp0, .lp1, .aspects] s t))
      ∧ (byteAt p 2 = 0 → ¬ held → s.aspects.length = 192 → answers (.defineAspect l p) s (fun t =>
          repliedWith ⟨0x41, [0x11, 13, 2, 0, 0]⟩ l s t ∧ unchangedExcept [.lp0, .lp1] s t))
      ∧ (byteAt p 2 = 1 → held → answers (.defineAspect l p) s (fun t =>
          (∀ e, ¬ mapHolds t.aspects system code e) ∧ mapsAgreeBut s.aspects t.aspects system code
            ∧ acceptedQuietly .defineAspect l s t ∧ unchangedExcept [.lp0, .lp1, .aspects] s t))
      ∧ (byteAt p 2 = 1 → ¬ held → answers (.defineAspect l p) s (fun t =>
          repliedWith ⟨0x41, [0x11, 14, 2, 0, 0]⟩ l s t ∧ unchangedExcept [.lp0, .lp1] s t))

/-- The group of positions of an ASPECT slot; empty for any other slot. -/
def groupOf (x : Slot) : List Nat :=
  match x.definition with
  | some d =>
    match d.body with
    | .aspect _ group _ _ => group
    | .number .. | .state .. => []
  | none => []

/-- The attention count of an ASPECT slot. -/
def countOf (x : Slot) : Nat :=
  match x.definition with
  | some d =>
    match d.body with
    | .aspect _ _ _ count => count
    | .number .. | .state .. => 0
  | none => 0

/-- A CHANGEOVER whose target is the active system is accepted and does nothing else; one with another target takes
every defined aspect slot to TRANSIT under the target, presenting the changeover pattern, with a new window, and with no
aspect slot defined it completes at once (R41, R42, R48). The reports SUPERSEDED, STARTED and COMPLETE are those of R40;
fault 1003 is cleared with the incomplete mark and fault 1004 of every DEGRADED slot. -/
def Obligations.ChangeoverTakesAspectSlotsToTransit : Prop :=
  ∀ (l : Link) (p : List Byte) (s : State) (target window : Nat), received .changeover l p s →
    target = (byteAt p 0).toNat → 1 ≤ target → target ≤ 4 → (byteAt p 1).toNat ≤ 15 ∨ byteAt p 1 = 0xff →
    window = (if byteAt p 1 = 0xff then s.general.windowCode else (byteAt p 1).toNat) →
    (target = s.changeover.active → answers (.changeover l p) s (fun t =>
        acceptedQuietly .changeover l s t ∧ unchangedExcept [.lp0, .lp1] s t))
      ∧ (target ≠ s.changeover.active → answers (.changeover l p) s (fun t =>
          t.changeover.active = target ∧ t.changeover.incomplete = false
            ∧ (∀ i : Fin 64, s.table[i].isAspect = true →
                t.table[i].state = .transit ∧ t.table[i].value = none ∧ t.table[i].rank = none
                  ∧ t.table[i].degraded = false ∧ t.table[i].monitor = .suspended
                  ∧ t.table[i].lapses = s.table[i].lapses ∧ t.table[i].lastSource = s.table[i].lastSource
                  ∧ t.table[i].lastUpdate = s.table[i].lastUpdate
                  ∧ t.table[i].definition = s.table[i].definition)
            ∧ (∀ i : Fin 64, s.table[i].isAspect = false → t.table[i] = s.table[i])
            ∧ (∀ i : Fin 64, s.table[i].isAspect = true →
                t.table[i].shown = aspectShown s (groupOf s.table[i]) (countOf s.table[i]) 0 0 false
                  ∧ (listSound s → s.table[i].degraded = true → faultInactive t 1004 (64 + i.val))
                  ∧ (∀ position : Fin 24, position.val ∈ groupOf s.table[i] →
                      (∀ j : Fin 64, j ≠ i → position.val ∉ groupOf s.table[j]) →
                      t.lamps.positions[position] = requestTaken s.lamps.positions[position]
                        (settingShown s (patternHeld s 0 0) false (countOf s.table[i]) position.val)))
            ∧ (∀ position : Fin 24, (∀ i : Fin 64, position.val ∉ groupOf s.table[i]) →
                t.lamps.positions[position] = s.lamps.positions[position])
            ∧ (listSound s → s.changeover.incomplete = true → faultInactive t 1003 190)
            ∧ (∀ transit, s.changeover.transit = some transit → s.lp0.queue.length < 7 →
                (s.lp0.queue ++ [⟨0x40, [0x26]⟩, changeoverFrame 3 transit.left s.changeover.active
                  (s.now - transit.start) s.slotsInTransit.length 0 s.now]) <+: t.lp0.queue)
            ∧ reportQueued (changeoverFrame 0 s.changeover.active target 0
                ((List.finRange 64).filter (fun i => s.table[i].isAspect)).length 0 s.now) s t
            ∧ ((∃ i : Fin 64, s.table[i].isAspect = true) →
                t.changeover.transit = some ⟨s.changeover.active, s.now,
                    s.now + BitVec.ofNat 32 (deadlineMs window)⟩
                  ∧ t.faults.conditions.getLsbD 14 = true)
            ∧ ((∀ i : Fin 64, s.table[i].isAspect = false ∧ s.table[i].state ≠ .transit) →
                t.changeover.transit = none ∧ t.faults.conditions.getLsbD 14 = false
                  ∧ reportQueued (changeoverFrame 1 s.changeover.active target 0 0 0 s.now) s t)
            ∧ repliesFirst ⟨0x40, [0x26]⟩ l s t
            ∧ unchangedExcept [.lp0, .table, .changeover, .faults, .lamps, .chime, .panel] s t))

/-- The changeover window's end lapses every slot still in TRANSIT with its count up by 1, sets the incomplete mark,
raises fault 1003 with the number of slots lapsed, presents their fallbacks, reports each lapse and WINDOW EXPIRED, and
leaves the target active in IDLE (R40, R46). The elapsed time of the report, expiry less start, is the model's choice
when the expiry is taken late (log 31). -/
def Obligations.ChangeoverWindowExpiryLapsesTransit : Prop :=
  ∀ (s : State) (transit : Transit), tableSound s → listSound s → s.phase = .running →
    s.changeover.transit = some transit → s.reached transit.expiry = true →
    answers .changeoverWindowExpiry s (fun t =>
      t.changeover = ⟨s.changeover.active, none, true⟩ ∧ t.faults.conditions.getLsbD 14 = false
        ∧ (∀ i : Fin 64, s.table[i].state = .transit →
            t.table[i].state = .lapsed ∧ t.table[i].value = none ∧ t.table[i].monitor = .stopped
              ∧ t.table[i].lapses = min 255 (s.table[i].lapses + 1)
              ∧ t.table[i].definition = s.table[i].definition
              ∧ (∀ d, s.table[i].definition = some d → t.table[i].shown = fallbackShown s d)
              ∧ reportQueued (lapsedReport i 2 (min 255 (s.table[i].lapses + 1)) s.table[i].lastSource s.now) s t)
        ∧ reportQueued (changeoverFrame 2 transit.left s.changeover.active (transit.expiry - transit.start)
            s.slotsInTransit.length 0 s.now) s t
        ∧ (∀ i : Fin 64, s.table[i].state ≠ .transit → t.table[i] = s.table[i])
        ∧ ((∀ i : Fin 64, s.table[i].state = .transit → ¬ (∃ d, s.table[i].definition = some d ∧ d.lapseAlarm = true)) →
            hasRoom s → holdsFault t 1003 190 (some (BitVec.ofNat 16 s.slotsInTransit.length)))
        ∧ t.lp1 = s.lp1
        ∧ unchangedExcept [.lp0, .table, .band, .changeover, .faults, .lamps, .chime, .panel] s t)

/-! ## Speed measurement (chapter 3) -/

/-- The next pair of the forward order (section 3.1). -/
def forwardOf : Bool × Bool → Bool × Bool
  | (false, false) => (true, false)
  | (true, false) => (true, true)
  | (true, true) => (false, true)
  | (false, true) => (false, false)

/-- A wheel channel after a step in a direction (R51). -/
def steppedWheel (w : Wheel) (s : State) (d : Direction) : Wheel :=
  { w with
    steps := if w.steps.natAbs < 32767 then (if d = .forward then w.steps + 1 else w.steps - 1) else w.steps
    stepFlag := true, lastStep := some s.clock, lastDirection := some d
    lastInterval := if w.lastDirection = some d then w.lastStep.map s.elapsed else none }

/-- A phase change moves the pins; in RUNNING the pair is decoded against the pair last taken as a forward step, a
backward step or a quadrature error, which sets its sticky flag; outside RUNNING nothing is decoded (R51). -/
def Obligations.WheelPhaseChangeDecodesPair : Prop :=
  ∀ (id : WheelId) (phase1 phase2 : Bool) (s : State) (w : Wheel) (old new : Bool × Bool),
    w = s.wheel id → w.errors ≤ 255 → new = (phase1, phase2) →
    answers (.wheelPhaseChange id phase1 phase2) s (fun t =>
      t.wheelPins = (match id with
        | .a => ⟨new, s.wheelPins.b⟩
        | .b => ⟨s.wheelPins.a, new⟩)
        ∧ (s.phase ≠ .running ∨ s.inReset = true → t.speed = s.speed)
        ∧ (s.phase = .running → s.inReset = false → w.lastPair = some old →
            (new = old → t.wheel id = w ∧ t.speed.sticky = s.speed.sticky)
              ∧ (new = forwardOf old → t.wheel id = { steppedWheel w s .forward with lastPair := some new }
                  ∧ t.speed.sticky = s.speed.sticky)
              ∧ (forwardOf new = old → t.wheel id = { steppedWheel w s .backward with lastPair := some new }
                  ∧ t.speed.sticky = s.speed.sticky)
              ∧ (new = forwardOf (forwardOf old) →
                  t.wheel id = { w with lastPair := some new, errors := min 255 (w.errors + 1) }
                    ∧ t.speed.sticky = s.speed.sticky ||| BitVec.twoPow 16 (if id = .a then 3 else 7)))
        ∧ (∀ other : WheelId, other ≠ id → t.wheel other = s.wheel other)
        ∧ t.speed = { s.speed with
            wheelA := t.speed.wheelA, wheelB := t.speed.wheelB, sticky := t.speed.sticky }
        ∧ unchangedExcept [.wheelPins, .speed] s t)

/-- A window end in RUNNING is taken now. -/
abbrev windowEndsNow (s : State) (moment : Time) : Prop :=
  s.phase = .running ∧ s.speed.windowEnd = some moment ∧ s.reached moment = true

/-- The settings of a window end: pending wheel parameters replace those in use (R54, R56 stage 1). -/
def settingsAtEnd (s : State) : SpeedSettings :=
  match s.speed.pendingWheel with
  | some w => { s.speed.settings with wheelDiameter := w.1, pulses := w.2 }
  | none => s.speed.settings

/-- A state with the settings of its window end. -/
def atWindowEnd (s : State) : State := s.setSpeed { s.speed with settings := settingsAtEnd s }

/-- The reference record while it is fresh (R64). -/
def referenceInUse (s : State) : Option Reference :=
  s.speed.reference.filter (fun r =>
    !r.stale && decide ((s.now - r.arrival).toNat < deadlineMs s.speed.settings.referenceDeadline))

/-- The judgement of the reference record (R64): 0 FRESH, 1 STALE, 2 ABSENT. -/
def referenceJudged (s : State) : Byte :=
  if s.speed.reference = none then 2 else if (referenceInUse s).isSome then 0 else 1

/-- One channel of SPEED REPORT (R160): the results it holds, and the steps and errors of the window that has closed. -/
def channelReported (w : Wheel) (steps : Int) (errors : Nat) : List Byte :=
  n16 (w.speed.getD 0) ++ b8 ((w.status.map WheelStatus.code).getD 0) ++ b8 ((w.direction.map Direction.code).getD 0)
    ++ b16 (BitVec.ofInt 16 steps) ++ b8 errors

/-- SPEED REPORT after a window end from s to t (R160). -/
def speedReportFrame (s t : State) : Frame :=
  ⟨0x54, b32 s.now ++ channelReported t.speed.wheelA s.speed.wheelA.steps s.speed.wheelA.errors
    ++ channelReported t.speed.wheelB s.speed.wheelB.steps s.speed.wheelB.errors
    ++ (match t.speed.displayed with
        | some v => 1 :: n16 v
        | none => [0, 0, 0])
    ++ [BitVec.ofNat 8 t.speed.selection.code, BitVec.ofNat 8 t.speed.direction.code,
      BitVec.ofNat 8 t.speed.disagreement.accord.code, BitVec.ofNat 8 t.speed.referenceCheck.accord.code,
      referenceJudged t]
    ++ (match t.speed.reference with
        | some r => n16 r.speed ++ [if r.quality = .good then 0 else 1]
        | none => [0, 0, 0])
    ++ [if t.faults.conditions.getLsbD 12 then 1 else 0] ++ b16 t.speed.sticky ++ b8 (t.speed.windowCount % 256)⟩

/-- The window end sets the next on the grid, applies pending wheel parameters, closes both windows with each channel's
speed and direction stored, counts itself, and sets the sticky flags of what it saw (R52, R54 to R56, R71); it touches no
other part than slot 0, the band, the fault list, LP0 and the desk. A window end that is due a SPEED REPORT queues it
last, and any other queues none (R73). -/
def Obligations.WindowEndClosesBothWindows : Prop :=
  ∀ (s : State) (moment : Time), windowEndsNow s moment → answers .windowEnd s (fun t =>
    t.speed.windowEnd = some (moment + BitVec.ofNat 32 s.speed.settings.windowLength)
      ∧ t.speed.settings = settingsAtEnd s ∧ t.speed.pendingWheel = none
      ∧ (∀ id : WheelId, ∃ free : Nat,
          (t.wheel id).steps = 0 ∧ (t.wheel id).stepFlag = false ∧ (t.wheel id).errors = 0
            ∧ (t.wheel id).lastPair = (s.wheel id).lastPair ∧ (t.wheel id).lastStep = (s.wheel id).lastStep
            ∧ (t.wheel id).lastDirection = (s.wheel id).lastDirection
            ∧ (t.wheel id).lastInterval = (s.wheel id).lastInterval
            ∧ (t.wheel id).speed = some ((atWindowEnd s).measured (s.wheel id) free).1
            ∧ (t.wheel id).direction = some ((atWindowEnd s).measured (s.wheel id) free).2
            ∧ (t.wheel id).previous = (t.wheel id).speed)
      ∧ t.speed.windowCount = s.speed.windowCount + 1
      ∧ (t.speed.sticky.getLsbD 1 = (s.speed.sticky.getLsbD 1 || (t.speed.wheelA.status == some .slip)))
      ∧ (t.speed.sticky.getLsbD 2 = (s.speed.sticky.getLsbD 2 || (t.speed.wheelA.status == some .slide)))
      ∧ (t.speed.sticky.getLsbD 4 = (s.speed.sticky.getLsbD 4 || (t.speed.wheelA.status == some .silent)))
      ∧ (t.speed.sticky.getLsbD 5 = (s.speed.sticky.getLsbD 5 || (t.speed.wheelB.status == some .slip)))
      ∧ (t.speed.sticky.getLsbD 6 = (s.speed.sticky.getLsbD 6 || (t.speed.wheelB.status == some .slide)))
      ∧ (t.speed.sticky.getLsbD 8 = (s.speed.sticky.getLsbD 8 || (t.speed.wheelB.status == some .silent)))
      ∧ (t.speed.sticky.getLsbD 3 = s.speed.sticky.getLsbD 3)
      ∧ (t.speed.sticky.getLsbD 7 = s.speed.sticky.getLsbD 7)
      ∧ (s.speed.settings.reportInterval ≠ 0 → (s.speed.windowCount + 1) % s.speed.settings.reportInterval = 0 →
          (∃ between : List Frame, t.lp0.queue = s.lp0.queue ++ between ++ [speedReportFrame s t])
            ∨ 8 ≤ t.lp0.queue.length)
      ∧ (s.speed.settings.reportInterval = 0 ∨ (s.speed.windowCount + 1) % s.speed.settings.reportInterval ≠ 0 →
          ∀ f ∈ t.lp0.queue, f.kind = 0x54 → f ∈ s.lp0.queue)
      ∧ (∀ j : Fin 64, j ≠ 0 → t.table[j] = s.table[j])
      ∧ unchangedExcept [.lp0, .table, .band, .speed, .faults, .lamps, .meter, .chime, .panel, .fresh] s t)

/-- A measured speed is the nearest whole number of 0.1 km/h to the exact formula of R57, held at 4000, with the
direction of R58; the margin of 10⁻⁶ is that of the model's π (log 10). -/
def Obligations.MeasuredSpeedIsNearestToExact : Prop :=
  ∀ (s : State) (w : Wheel) (free v : Nat) (d : Direction) (c : SpeedSettings), c = s.speed.settings →
    0 < c.windowLength → 0 < c.pulses → s.measured w free = (v, d) →
    v ≤ 4000
      ∧ (8 ≤ w.steps.natAbs →
          (v < 4000 → |(v : ℝ) - 36 * w.steps.natAbs * (Real.pi * c.wheelDiameter / (4 * c.pulses)) / c.windowLength|
            ≤ 1 / 2 + 1 / 10 ^ 6)
          ∧ (v = 4000 → 4000 - 1 / 2 - 1 / 10 ^ 6
            ≤ 36 * w.steps.natAbs * (Real.pi * c.wheelDiameter / (4 * c.pulses)) / c.windowLength)
          ∧ (0 < w.steps → d = .forward) ∧ (w.steps < 0 → d = .backward))
      ∧ (∀ last interval : Nat, w.steps.natAbs < 8 → w.lastStep = some last → w.lastInterval = some interval →
          s.elapsed last ≤ c.standstillTime * 1000 → 0 < max interval (s.elapsed last) →
          (v < 4000 → |(v : ℝ) - 36 * (Real.pi * c.wheelDiameter / (4 * c.pulses))
              / ((max interval (s.elapsed last) : ℕ) / 1000)| ≤ 1 / 2 + 1 / 10 ^ 6)
          ∧ (v = 4000 → 4000 - 1 / 2 - 1 / 10 ^ 6 ≤ 36 * (Real.pi * c.wheelDiameter / (4 * c.pulses))
              / ((max interval (s.elapsed last) : ℕ) / 1000))
          ∧ (∀ e, w.lastDirection = some e → d = e))
      ∧ (w.steps.natAbs < 8 →
          w.lastStep = none ∨ w.lastInterval = none
            ∨ (∃ last, w.lastStep = some last ∧ c.standstillTime * 1000 < s.elapsed last) →
          v = 0 ∧ d = .unknown)

/-- The results a state holds for a channel after a window end. -/
def hasResults (t : State) (id : WheelId) (v : Nat) (status : WheelStatus) (d : Direction) : Prop :=
  (t.wheel id).speed = some v ∧ (t.wheel id).status = some status ∧ (t.wheel id).direction = some d

/-- The other channel. -/
def otherWheel : WheelId → WheelId
  | .a => .b
  | .b => .a

/-- The accel allowance is exceeded by a rise from `low` to `high` (R59). -/
abbrev exceedsAccel (c : SpeedSettings) (high low : Nat) : Prop := low * 1000 + c.accelLimit * c.windowLength < high * 1000

/-- An active entry is held for a code and origin. -/
def faultActive (t : State) (code origin : Nat) : Prop :=
  ∃ e ∈ t.faults.entries, e.code = code ∧ e.origin = origin ∧ e.state ≠ .clearedUnacked

/-- An entry after a re-raise (R83). -/
def reraisedEntry (e : Entry) (parameter : Option Word) (now : Time) : Entry :=
  { e with
    occurrences := min 255 (e.occurrences + 1), lastChange := now
    parameter := if parameter.isSome then parameter else e.parameter
    state := if e.state = .clearedUnacked then .activeUnacked else e.state }

/-- The entry a raise creates (R84). -/
def createdEntry (s : State) (code origin : Nat) (parameter : Option Word) : Entry :=
  { code, origin, treatment := treatmentOf s.faults.catalogue code
    state := if (treatmentOf s.faults.catalogue code).cls = .c then .activeAcked else .activeUnacked
    occurrences := 1, firstRaised := s.now, lastChange := s.now, parameter
    visible := (s.faults.conditions &&& (treatmentOf s.faults.catalogue code).mask)
      == (treatmentOf s.faults.catalogue code).mtch }

/-- A list with an entry placed first among those of its class, in a list in class order (R81). -/
def placedByClass (new : Entry) (entries : List Entry) : List Entry :=
  entries.filter (fun e => e.treatment.cls.code < new.treatment.cls.code) ++
    new :: entries.filter (fun e => new.treatment.cls.code ≤ e.treatment.cls.code)

/-- The entry a new fault evicts from a full list: of the lowest class held, the oldest CLEARED-UNACKED entry when there
is one, else the oldest; the oldest is the last in list order (R85). -/
def evicts (entries before after : List Entry) (victim : Entry) : Prop :=
  entries = before ++ victim :: after
    ∧ (∀ e ∈ entries, e.treatment.cls.code ≤ victim.treatment.cls.code)
    ∧ ((victim.state = .clearedUnacked ∧ ∀ e ∈ after, e.state ≠ .clearedUnacked)
        ∨ (after = [] ∧ ∀ e ∈ entries, e.treatment.cls = victim.treatment.cls → e.state ≠ .clearedUnacked))

/-- What a clear makes of an entry: CLEARED-UNACKED from ACTIVE-UNACKED, gone from ACTIVE-ACKED (R88). -/
def clearedEntry (e : Entry) (now : Time) : Option Entry :=
  match e.state with
  | .activeUnacked => some { e with state := .clearedUnacked, lastChange := now }
  | .activeAcked => none
  | .clearedUnacked => some e

/-- A raise or clear that a block of the part asks of the fault list (R87). -/
inductive FaultAct where
  | raise (code origin : Nat) (parameter : Option Word)
  | clear (code origin : Nat)
deriving DecidableEq, Repr

/-- The code and origin of an act. -/
def FaultAct.key : FaultAct → Nat × Nat
  | .raise code origin _ | .clear code origin => (code, origin)

/-- The entry of a code and origin. -/
abbrev isEntryOf (e : Entry) (code origin : Nat) : Prop := e.code = code ∧ e.origin = origin

/-- What one act makes of the entries and the dropped count: a raise by R83 to R86, a clear by R90. -/
def actLeaves (s : State) (act : FaultAct) (before after : List Entry × Nat) : Prop :=
  match act with
  | .raise code origin parameter =>
    ((∃ e ∈ before.1, isEntryOf e code origin) →
        after = (before.1.map (fun e =>
          if isEntryOf e code origin then reraisedEntry e parameter s.now else e), before.2))
      ∧ ((∀ e ∈ before.1, ¬ isEntryOf e code origin) → before.1.length < 48 →
          after = (placedByClass (createdEntry s code origin parameter) before.1, before.2))
      ∧ ((∀ e ∈ before.1, ¬ isEntryOf e code origin) → 48 ≤ before.1.length →
          (∃ e ∈ before.1, (createdEntry s code origin parameter).treatment.cls.code < e.treatment.cls.code) →
          ∃ (front rear : List Entry) (victim : Entry), evicts before.1 front rear victim
            ∧ after = (placedByClass (createdEntry s code origin parameter) (front ++ rear), before.2))
      ∧ ((∀ e ∈ before.1, ¬ isEntryOf e code origin) → 48 ≤ before.1.length →
          (∀ e ∈ before.1, e.treatment.cls.code ≤ (createdEntry s code origin parameter).treatment.cls.code) →
          after = (before.1, min 65535 (before.2 + 1)))
  | .clear code origin =>
    after = (before.1.filterMap (fun e => if isEntryOf e code origin then clearedEntry e s.now else some e), before.2)

/-- What a run of acts makes of the entries and the dropped count, one after another. -/
def actsLeave (s : State) : List FaultAct → List Entry × Nat → List Entry × Nat → Prop
  | [], before, after => after = before
  | act :: rest, before, after => ∃ held, actLeaves s act before held ∧ actsLeave s rest held after

/-- The keys of the faults a window end raises and clears, in the order of its stages (R56). -/
def windowKeys : List (Nat × Nat) := [(1001, 170), (1001, 171), (1000, 172), (1002, 172), (1008, 64)]

/-- A window end asks the fault list for these acts of one key and for others of its keys, each key once and in stage
order; the list takes them in that order, full or not, and decides visibility again under the new word (R56, R80). -/
def windowActs (s t : State) (key : Nat × Nat) (acts : List FaultAct) : Prop :=
  ∃ (all : List FaultAct) (left : List Entry × Nat),
    (all.map FaultAct.key).Sublist windowKeys ∧ all.filter (fun act => act.key == key) = acts
      ∧ actsLeave s all (s.faults.entries, s.faults.dropped) left
      ∧ t.faults.entries = left.1.map (fun e =>
          { e with visible := (t.faults.conditions &&& e.treatment.mask) == e.treatment.mtch })
      ∧ t.faults.dropped = left.2

/-- The acts that a state of agreement asks for as it changes (R62, R67). -/
def accordActs (code : Nat) (parameter : Word) (before after : Accord) : List FaultAct :=
  if before = .agree ∧ after = .disagree then [.raise code 172 (some parameter)]
  else if before = .disagree ∧ after = .agree then [.clear code 172]
  else []

/-- FAILED, SILENT, SLIP, SLIDE, GOOD: each channel gets the first status whose condition holds, its previous speed being
that of the window before; the silent run and the lost mark follow, the fifth SILENT window raises fault 1001, and the
step that finds a lost channel again clears it, whatever the list holds (R59, R60). -/
def Obligations.WindowEndJudgesChannels : Prop :=
  ∀ (s : State) (moment : Time) (id : WheelId), windowEndsNow s moment → (s.wheel id).silentRun ≤ 5 →
    answers .windowEnd s (fun t =>
      ∃ (v v' : Nat) (status status' : WheelStatus) (d d' : Direction),
        hasResults t id v status d ∧ hasResults t (otherWheel id) v' status' d'
          ∧ (4 ≤ (s.wheel id).errors → status = .failed)
          ∧ ((s.wheel id).errors < 4 → (s.wheel id).stepFlag = false → (s.wheel (otherWheel id)).stepFlag = true →
              status' = .good → 50 ≤ v' → status = .silent)
          ∧ ((s.wheel id).errors < 4 →
              (s.wheel id).stepFlag = true ∨ v' < 50
                ∨ ((s.wheel (otherWheel id)).stepFlag = true ∧ status' ≠ .good) →
              (∀ p, (s.wheel id).previous = some p →
                  (exceedsAccel s.speed.settings v p → status = .slip)
                    ∧ (exceedsAccel s.speed.settings p v → status = .slide)
                    ∧ (¬ exceedsAccel s.speed.settings v p → ¬ exceedsAccel s.speed.settings p v → status = .good))
                ∧ ((s.wheel id).previous = none → status = .good))
          ∧ (status = .silent → (t.wheel id).silentRun = min 5 ((s.wheel id).silentRun + 1)
              ∧ (t.wheel id).lost = ((s.wheel id).lost || (s.wheel id).silentRun == 4))
          ∧ (status = .silent → (s.wheel id).silentRun = 4 → s.faults.entries.length ≤ 40 →
              faultActive t 1001 (if id = .a then 170 else 171))
          ∧ (listSound s → status ≠ .silent → (s.wheel id).stepFlag = true → (s.wheel id).lost = true →
              faultInactive t 1001 (if id = .a then 170 else 171))
          ∧ (listSound s → tableSound s → windowActs s t (1001, if id = .a then 170 else 171)
              (if status = .silent ∧ (s.wheel id).silentRun = 4 then
                [.raise 1001 (if id = .a then 170 else 171) none]
              else if status ≠ .silent ∧ (s.wheel id).stepFlag = true ∧ (s.wheel id).lost = true then
                [.clear 1001 (if id = .a then 170 else 171)]
              else []))
          ∧ (status ≠ .silent → (t.wheel id).silentRun = 0
              ∧ (t.wheel id).lost = ((s.wheel id).lost && !(s.wheel id).stepFlag)))

/-- The difference of two speeds exceeds the tolerance: the larger of the absolute and the relative one (R61). -/
def exceedsTolerance (c : SpeedSettings) (v v' : Nat) : Bool :=
  decide (200 * c.absoluteTolerance < 200 * (max v v' - min v v'))
    && decide (c.relativeTolerance * max v v' < 200 * (max v v' - min v v'))

/-- A state of agreement after a comparison (the table of R62). -/
def agreementAfter (g : Agreement) (confirm : Nat) (mismatch : Bool) : Agreement :=
  match g.accord, mismatch with
  | .agree, true => if g.mismatchRun + 1 = confirm then ⟨.disagree, 0, 0⟩ else { g with mismatchRun := g.mismatchRun + 1 }
  | .agree, false => { g with mismatchRun := 0 }
  | .disagree, false => if g.agreeRun + 1 = confirm then ⟨.agree, 0, 0⟩ else { g with agreeRun := g.agreeRun + 1 }
  | .disagree, true => { g with agreeRun := 0 }

/-- Both runs of a state of agreement lie below the confirm count. -/
abbrev runsBelow (g : Agreement) (confirm : Nat) : Prop := g.mismatchRun < confirm ∧ g.agreeRun < confirm

/-- A comparison window is MISMATCH (R61). -/
def windowMismatch (c : SpeedSettings) (v v' : Nat) (d d' : Direction) : Bool :=
  (d == .forward && d' == .backward) || (d == .backward && d' == .forward) || exceedsTolerance c v v'

/-- A window with both channels GOOD is compared and moves the disagreement state by the table of R62, raising fault 1000
with the difference on the way into DISAGREE and clearing it on the way back, whatever the list holds; a window in which
a channel is not GOOD moves nothing (R61, R62). -/
def Obligations.WindowEndComparesChannels : Prop :=
  ∀ (s : State) (moment : Time), windowEndsNow s moment →
    runsBelow s.speed.disagreement s.speed.settings.confirmCount → answers .windowEnd s (fun t =>
      ∀ (v v' : Nat) (status status' : WheelStatus) (d d' : Direction),
        hasResults t .a v status d → hasResults t .b v' status' d' →
        (listSound s → tableSound s → windowActs s t (1000, 172) (accordActs 1000 (BitVec.ofNat 16 (max v v' - min v v'))
            s.speed.disagreement.accord t.speed.disagreement.accord))
          ∧ (listSound s → s.speed.disagreement.accord = .disagree → t.speed.disagreement.accord = .agree →
              faultInactive t 1000 172)
          ∧ (status = .good → status' = .good →
            t.speed.disagreement = agreementAfter s.speed.disagreement s.speed.settings.confirmCount
                (windowMismatch s.speed.settings v v' d d')
              ∧ t.speed.sticky.getLsbD 0 =
                (s.speed.sticky.getLsbD 0 || windowMismatch s.speed.settings v v' d d')
              ∧ (s.speed.disagreement.accord = .agree → t.speed.disagreement.accord = .disagree →
                  s.faults.entries.length ≤ 40 → holdsFault t 1000 172 (some (BitVec.ofNat 16 (max v v' - min v v')))))
          ∧ (status ≠ .good ∨ status' ≠ .good → t.speed.disagreement = s.speed.disagreement
              ∧ t.speed.sticky.getLsbD 0 = s.speed.sticky.getLsbD 0))

/-- The candidate of a window end: the first row of R65 that applies, with HOLD under R66. -/
def candidateByTable (disagreement : Accord) (status status' : WheelStatus) (v v' : Nat) (fresh : Option Reference)
    (before : Option Nat) (holdCount holdLimit : Nat) : Selection × Option Nat :=
  if disagreement = .disagree then
    match fresh with
    | some f => if f.quality = .good then (.reference, some f.speed) else (.none, none)
    | none => (.none, none)
  else if status = .good then
    if status' = .good then (.dual, some ((v + v' + 1) / 2)) else (.a, some v)
  else if status' = .good then (.b, some v')
  else
    match fresh, before with
    | some f, _ => (.reference, some f.speed)
    | none, some shown => if holdCount < holdLimit then (.hold, some shown) else (.none, none)
    | none, none => (.none, none)

/-- The speeds that the reference check compares: a candidate taken from the channels and a fresh GOOD reference (R67). -/
def comparedWithReference (candidate : Selection × Option Nat) (fresh : Option Reference) : Option (Nat × Nat) :=
  match candidate, fresh with
  | (.dual, some v), some f | (.a, some v), some f | (.b, some v), some f =>
    if f.quality = .good then some (v, f.speed) else none
  | _, _ => none

/-- The displayed direction of a selection (R69). -/
def directionShown (selection : Selection) (d d' : Direction) : Direction :=
  match selection with
  | .a => d
  | .b => d'
  | .dual => if d = d' then d else if d = .unknown then d' else if d' = .unknown then d else .unknown
  | .reference | .hold | .none => .unknown

/-- The candidate of R65 is checked against the reference, with the sticky flag REFERENCE DISAGREE SEEN and the raise and
clear of fault 1002 (R67), and shown unless the action is WITHDRAW and the check disagrees (R68); slot 0, the hold
count, the displayed direction, the low run and STANDSTILL follow (R66, R69, R70). -/
def Obligations.SelectionFollowsTables : Prop :=
  ∀ (s : State) (moment : Time), windowEndsNow s moment → tableSound s →
    runsBelow s.speed.referenceCheck s.speed.settings.confirmCount → answers .windowEnd s (fun t =>
      ∀ (v v' : Nat) (status status' : WheelStatus) (d d' : Direction) (candidate : Selection × Option Nat)
        (standing : Bool),
        hasResults t .a v status d → hasResults t .b v' status' d' →
        candidate = candidateByTable t.speed.disagreement.accord status status' v v' (referenceInUse s)
          s.speed.displayed s.speed.holdCount s.speed.settings.holdLimit →
        standing = s.faults.conditions.getLsbD 12 →
        (match comparedWithReference candidate (referenceInUse s) with
          | some q => t.speed.referenceCheck = agreementAfter s.speed.referenceCheck s.speed.settings.confirmCount
              (exceedsTolerance s.speed.settings q.1 q.2)
          | none => t.speed.referenceCheck = s.speed.referenceCheck)
          ∧ (match comparedWithReference candidate (referenceInUse s) with
            | some q => t.speed.sticky.getLsbD 9 = (s.speed.sticky.getLsbD 9
                || exceedsTolerance s.speed.settings q.1 q.2)
              ∧ (s.speed.referenceCheck.accord = .agree → t.speed.referenceCheck.accord = .disagree →
                  s.faults.entries.length ≤ 40 →
                  holdsFault t 1002 172 (some (BitVec.ofNat 16 (max q.1 q.2 - min q.1 q.2))))
            | none => t.speed.sticky.getLsbD 9 = s.speed.sticky.getLsbD 9)
          ∧ (listSound s → windowActs s t (1002, 172) (match comparedWithReference candidate (referenceInUse s) with
              | some q => accordActs 1002 (BitVec.ofNat 16 (max q.1 q.2 - min q.1 q.2))
                  s.speed.referenceCheck.accord t.speed.referenceCheck.accord
              | none => []))
          ∧ (listSound s → s.speed.referenceCheck.accord = .disagree → t.speed.referenceCheck.accord = .agree →
              faultInactive t 1002 172)
          ∧ (t.speed.selection, t.speed.displayed) =
              (if s.speed.settings.referenceAction = .withdraw ∧ t.speed.referenceCheck.accord = .disagree
                then (.none, none) else candidate)
          ∧ t.speed.holdCount = (if t.speed.selection = .hold then s.speed.holdCount + 1 else 0)
          ∧ (∀ shown : Nat, t.speed.displayed = some shown → t.table[(0 : Fin 64)].state = .live
              ∧ t.table[(0 : Fin 64)].value = some (BitVec.ofNat 16 shown)
              ∧ t.table[(0 : Fin 64)].lastSource = some 5)
          ∧ (t.speed.displayed = none → t.table[(0 : Fin 64)].state ≠ .live)
          ∧ t.speed.direction = directionShown t.speed.selection d d'
          ∧ (∀ shown : Nat, t.speed.displayed = some shown →
              (shown < 5 → t.speed.lowRun = min 3 (s.speed.lowRun + 1)
                  ∧ t.faults.conditions.getLsbD 12 = (standing || decide (3 ≤ s.speed.lowRun + 1)))
                ∧ (5 ≤ shown → shown < 10 → t.speed.lowRun = 0 ∧ t.faults.conditions.getLsbD 12 = standing)
                ∧ (10 ≤ shown → t.speed.lowRun = 0 ∧ t.faults.conditions.getLsbD 12 = false))
          ∧ (t.speed.displayed = none → t.speed.lowRun = 0 ∧ t.faults.conditions.getLsbD 12 = false))

/-- SET SPEED PARAMETERS replaces all twelve settings; SET WHEEL replaces the wheel parameters at once in CONFIGURING,
makes them pending in RUNNING at standstill and is refused with NOT AT STANDSTILL otherwise; REFERENCE SPEED replaces the
record; CLEAR SPEED FLAGS clears the flags it names. Nothing else changes (R53, R54, R63, R72). -/
def Obligations.SpeedUnitOrdersTakeEffect : Prop :=
  ∀ (l : Link) (p : List Byte) (s : State),
    (received .setSpeedParameters l p s → passes (speedParameterChecks p) →
        answers (.setSpeedParameters l p) s (fun t =>
          t.speed = { s.speed with settings :=
              ⟨(wordAt p 0).toNat, (wordAt p 2).toNat, (byteAt p 4).toNat, (byteAt p 5).toNat, (byteAt p 6).toNat,
               (byteAt p 7).toNat, (byteAt p 8).toNat, (byteAt p 9).toNat,
               if byteAt p 10 = 0 then .report else .withdraw, (byteAt p 11).toNat, (wordAt p 12).toNat,
               (wordAt p 14).toNat⟩ }
            ∧ acceptedQuietly .setSpeedParameters l s t ∧ unchangedExcept [.lp0, .lp1, .speed] s t))
      ∧ (received .setWheel l p s → 800 ≤ (wordAt p 0).toNat → (wordAt p 0).toNat ≤ 1300 → 20 ≤ (wordAt p 2).toNat →
          (wordAt p 2).toNat ≤ 400 →
          (s.phase = .configuring → answers (.setWheel l p) s (fun t =>
              t.speed = { s.speed with settings := { s.speed.settings with
                  wheelDiameter := (wordAt p 0).toNat, pulses := (wordAt p 2).toNat } }
                ∧ acceptedQuietly .setWheel l s t ∧ unchangedExcept [.lp0, .lp1, .speed] s t))
            ∧ (s.phase = .running → s.faults.conditions.getLsbD 12 = true → answers (.setWheel l p) s (fun t =>
                t.speed = { s.speed with pendingWheel := some ((wordAt p 0).toNat, (wordAt p 2).toNat) }
                  ∧ acceptedQuietly .setWheel l s t ∧ unchangedExcept [.lp0, .lp1, .speed] s t))
            ∧ (s.phase = .running → s.faults.conditions.getLsbD 12 = false → answers (.setWheel l p) s (fun t =>
                repliedWith ⟨0x41, [0x28, 16, 0, 0, 0]⟩ l s t ∧ unchangedExcept [.lp0, .lp1] s t)))
      ∧ (received .referenceSpeed l p s → sourceFits l (byteAt p 0).toNat → (wordAt p 1).toNat ≤ 4000 →
          (byteAt p 3).toNat ≤ 1 → answers (.referenceSpeed l p) s (fun t =>
            t.speed = { s.speed with reference := some ⟨(byteAt p 0).toNat, (wordAt p 1).toNat,
                if byteAt p 3 = 0 then .good else .degraded, s.now, false⟩ }
              ∧ acceptedQuietly .referenceSpeed l s t ∧ unchangedExcept [.lp0, .lp1, .speed] s t))
      ∧ (received .clearSpeedFlags l p s → (∀ b ∈ p, 1 ≤ b.toNat ∧ b.toNat ≤ 10) →
          answers (.clearSpeedFlags l p) s (fun t =>
            (∀ n : Nat, t.speed.sticky.getLsbD n =
                (s.speed.sticky.getLsbD n && !(p.any (fun b => b.toNat == n + 1))))
              ∧ t.speed = { s.speed with sticky := t.speed.sticky }
              ∧ acceptedQuietly .clearSpeedFlags l s t ∧ unchangedExcept [.lp0, .lp1, .speed] s t))

/-! ## The fault message list (chapter 4) -/

/-- The catalogue holds an entry of a key. -/
def catalogueHolds (c : List CatalogueEntry) (base width : Nat) (e : CatalogueEntry) : Prop :=
  e ∈ c ∧ e.base = base ∧ e.width = width

/-- Two catalogues agree on every key but one. -/
def cataloguesAgreeBut (c d : List CatalogueEntry) (base width : Nat) : Prop :=
  ∀ e : CatalogueEntry, ¬ (e.base = base ∧ e.width = width) → (e ∈ d ↔ e ∈ c)

/-- The treatment a DEFINE FAULT record holds (sections 4.1 and 9.5). -/
def treatmentRead (p : List Byte) : Treatment :=
  { cls := if byteAt p 4 = 0 then .a else if byteAt p 4 = 1 then .b else .c
    mask := wordAt p 5, mtch := wordAt p 7
    chime := if byteAt p 9 = 0 then .none else if byteAt p 9 = 1 then .single else if byteAt p 9 = 2 then .triple
      else .continuous
    text := (wordAt p 10).toNat }

/-- A DEFINE FAULT that passes its checks replaces, adds or deletes the entry of its key, the low bits of a base code
being 0, or is refused with TABLE FULL or NO ENTRY (R76, the table of R77). -/
def Obligations.DefineFaultActsOnCatalogue : Prop :=
  ∀ (l : Link) (p : List Byte) (s : State) (base width : Nat) (held : Prop), configurationSound s →
    received .defineFault l p s → passes (defineFaultChecks p) → width = (byteAt p 2).toNat →
    base = (wordAt p 0).toNat - (wordAt p 0).toNat % 2 ^ width →
    (held ↔ ∃ e, catalogueHolds s.faults.catalogue base width e) →
    (byteAt p 3 = 0 → held ∨ s.faults.catalogue.length < 256 → answers (.defineFault l p) s (fun t =>
        (∀ e, catalogueHolds t.faults.catalogue base width e ↔ e = ⟨base, width, treatmentRead p⟩)
          ∧ cataloguesAgreeBut s.faults.catalogue t.faults.catalogue base width
          ∧ t.faults = { s.faults with catalogue := t.faults.catalogue }
          ∧ acceptedQuietly .defineFault l s t ∧ unchangedExcept [.lp0, .lp1, .faults] s t))
      ∧ (byteAt p 3 = 0 → ¬ held → s.faults.catalogue.length = 256 → answers (.defineFault l p) s (fun t =>
          repliedWith ⟨0x41, [0x12, 13, 2, 0, 0]⟩ l s t ∧ unchangedExcept [.lp0, .lp1] s t))
      ∧ (byteAt p 3 = 1 → held → answers (.defineFault l p) s (fun t =>
          (∀ e, ¬ catalogueHolds t.faults.catalogue base width e)
            ∧ cataloguesAgreeBut s.faults.catalogue t.faults.catalogue base width
            ∧ t.faults = { s.faults with catalogue := t.faults.catalogue }
            ∧ acceptedQuietly .defineFault l s t ∧ unchangedExcept [.lp0, .lp1, .faults] s t))
      ∧ (byteAt p 3 = 1 → ¬ held → answers (.defineFault l p) s (fun t =>
          repliedWith ⟨0x41, [0x12, 14, 2, 0, 0]⟩ l s t ∧ unchangedExcept [.lp0, .lp1] s t))

/-- An entry covers a code: all bits above the lowest `width` agree (section 4.1). -/
abbrev coversCode (e : CatalogueEntry) (code : Nat) : Prop := e.base / 2 ^ e.width = code / 2 ^ e.width

/-- The built-in defaults: code, class and chime (the second table of R78). -/
def builtInRows : List (Nat × FaultClass × ChimePattern) :=
  [(1000, .a, .continuous), (1001, .b, .single), (1002, .c, .none), (1003, .a, .continuous), (1004, .a, .continuous),
   (1005, .b, .single), (1006, .b, .single), (1007, .c, .none), (1008, .b, .single), (1009, .b, .single),
   (1010, .c, .none)]

/-- The treatment of a code: its exact entry, else the covering range of smallest width, else the built-in default of
1000 to 1010, else class C without mask, match, chime or text (R78). -/
def Obligations.TreatmentFollowsCatalogueSteps : Prop :=
  ∀ (s : State) (code : Nat), configurationSound s →
    (∀ e ∈ s.faults.catalogue, e.width = 0 → e.base = code →
        treatmentOf s.faults.catalogue code = e.treatment)
      ∧ ((∀ e ∈ s.faults.catalogue, ¬ (e.width = 0 ∧ e.base = code)) →
          ∀ e ∈ s.faults.catalogue, 1 ≤ e.width → coversCode e code →
            (∀ f ∈ s.faults.catalogue, coversCode f code → e.width ≤ f.width) →
            treatmentOf s.faults.catalogue code = e.treatment)
      ∧ ((∀ e ∈ s.faults.catalogue, ¬ coversCode e code) →
          (∀ row ∈ builtInRows, row.1 = code →
              treatmentOf s.faults.catalogue code = ⟨row.2.1, 0, 0, row.2.2, code⟩)
            ∧ (code < 1000 ∨ 1010 < code → treatmentOf s.faults.catalogue code = ⟨.c, 0, 0, .none, 0⟩))

/-- No entry is held for a code and origin. -/
abbrev notHeld (s : State) (code origin : Nat) : Prop := ∀ e ∈ s.faults.entries, ¬ (e.code = code ∧ e.origin = origin)

/-- The fault entry record (R159). -/
def entryBytes (e : Entry) : List Byte :=
  n16 e.code ++ [BitVec.ofNat 8 e.origin, BitVec.ofNat 8 (64 * e.treatment.cls.code + 16 * e.state.code
      + 4 * e.treatment.chime.code + (if e.visible then 2 else 0) + (if e.parameter.isSome then 1 else 0))]
    ++ n16 e.treatment.text ++ [BitVec.ofNat 8 e.occurrences]
    ++ (b32 e.firstRaised).take 3 ++ (b32 e.lastChange).take 3 ++ b16 (e.parameter.getD 0)

/-- FAULT REPORT (R101, R159): event 0 ENTERED, 1 RERAISED, 2 ACKNOWLEDGED, 3 CLEARED, 4 REMOVED, 5 EVICTED, 6 DROPPED;
agent 0 LP0 ORDER, 1 LP1 ORDER, 2 ACK KEY, 3 PART. -/
def faultFrame (event agent : Nat) (e : Entry) (held dropped : Nat) : Frame :=
  ⟨0x53, [BitVec.ofNat 8 event, BitVec.ofNat 8 agent] ++ entryBytes e ++ [BitVec.ofNat 8 held] ++ n16 dropped⟩

/-- The reply is queued on its link and then, on LP0, these reports, as R152 queues each (R101). -/
def repliedThenReported (reply : Frame) (l : Link) (reports : List Frame) (s t : State) : Prop :=
  t.lp0 = reports.foldl (fun p f => p.enqueue s.clock f)
      (if l = .lp0 then { s.lp0.enqueue s.clock reply with wokeAt := none } else s.lp0)
    ∧ t.lp1 = (if l = .lp1 then { s.lp1.enqueue s.clock reply with wokeAt := none } else s.lp1)

/-- The one-shot request of an entry that has become visible and ACTIVE-UNACKED (R96). -/
def oneShotOf (e : Entry) : Option ChimePattern :=
  if e.visible = true ∧ e.state = .activeUnacked ∧ (e.treatment.chime = .single ∨ e.treatment.chime = .triple) then
    some e.treatment.chime
  else none

/-- The chime after an event of the list: the one-shot request, when there is one, and then CONTINUOUS requested or
withdrawn as the demand changes (R84, R97); what a request and a withdrawal do is in MeterAndChimeFollowTheirTables. -/
def chimeFollows (oneShot : Option ChimePattern) (s t : State) : Prop :=
  t.faults.demand = t.faults.entries.any (fun e =>
      e.treatment.chime == .continuous && e.visible && e.state != .activeAcked)
    ∧ t.chime = (
        let asked := match oneShot with
          | some p => requestOneShot p s
          | none => s
        if t.faults.demand = s.faults.demand then asked
        else if t.faults.demand then requestContinuous asked
        else withdrawContinuous asked).chime

/-- What a raise leaves alone in the fault list. -/
def raiseKeeps (s t : State) : Prop :=
  t.faults.catalogue = s.faults.catalogue ∧ t.faults.conditions = s.faults.conditions
    ∧ unchangedExcept [.lp0, .lp1, .faults, .chime, .panel] s t

/-- RAISE FAULT: a held entry is re-raised in its place (R83); a new one is created first in its class (R84), from a full
list by evicting from a lower class (R85); otherwise the raise is dropped, counted and refused (R86). The reply stands
before the FAULT REPORTs of what changed (R82, R101), and the entry's chime is requested (R96, R97). -/
def Obligations.RaiseFaultTakesItsCase : Prop :=
  ∀ (l : Link) (p : List Byte) (s : State) (code origin : Nat) (parameter : Option Word), listSound s →
    received .raiseFault l p s → code = (wordAt p 0).toNat → origin = (byteAt p 2).toNat → code < 1000 → origin < 64 →
    parameter = (if p.length = 5 then some (wordAt p 3) else none) →
    (¬ notHeld s code origin → answers (.raiseFault l p) s (fun t =>
        t.faults.entries = s.faults.entries.map (fun e =>
            if e.code = code ∧ e.origin = origin then reraisedEntry e parameter s.now else e)
          ∧ t.faults.dropped = s.faults.dropped ∧ t.faults.moreFaults = s.faults.moreFaults
          ∧ (∀ e ∈ s.faults.entries, isEntryOf e code origin →
              repliedThenReported ⟨0x40, [0x22]⟩ l [faultFrame 1 (linkCode l) (reraisedEntry e parameter s.now)
                  s.faults.entries.length s.faults.dropped] s t
                ∧ chimeFollows (if e.state = .clearedUnacked then oneShotOf (reraisedEntry e parameter s.now) else none)
                  s t
                ∧ (e.state = .clearedUnacked → e.treatment.cls = .a → e.visible = true → t.faults.cursor = 0))
          ∧ raiseKeeps s t))
      ∧ (notHeld s code origin → s.faults.entries.length < 48 → answers (.raiseFault l p) s (fun t =>
          t.faults.entries = placedByClass (createdEntry s code origin parameter) s.faults.entries
            ∧ ((createdEntry s code origin parameter).treatment.cls = .a →
                (createdEntry s code origin parameter).visible = true → t.faults.cursor = 0)
            ∧ t.faults.dropped = s.faults.dropped ∧ t.faults.moreFaults = s.faults.moreFaults
            ∧ repliedThenReported ⟨0x40, [0x22]⟩ l [faultFrame 0 (linkCode l) (createdEntry s code origin parameter)
                (s.faults.entries.length + 1) s.faults.dropped] s t
            ∧ chimeFollows (oneShotOf (createdEntry s code origin parameter)) s t ∧ raiseKeeps s t))
      ∧ (notHeld s code origin → s.faults.entries.length = 48 →
          (∃ e ∈ s.faults.entries,
            (createdEntry s code origin parameter).treatment.cls.code < e.treatment.cls.code) →
          answers (.raiseFault l p) s (fun t =>
            (∃ (before after : List Entry) (victim : Entry), evicts s.faults.entries before after victim
                ∧ t.faults.entries = placedByClass (createdEntry s code origin parameter) (before ++ after)
                ∧ repliedThenReported ⟨0x40, [0x22]⟩ l [faultFrame 5 3 victim 47 s.faults.dropped,
                    faultFrame 0 (linkCode l) (createdEntry s code origin parameter) 48 s.faults.dropped] s t)
              ∧ t.faults.dropped = s.faults.dropped ∧ t.faults.moreFaults = s.faults.moreFaults
              ∧ chimeFollows (oneShotOf (createdEntry s code origin parameter)) s t ∧ raiseKeeps s t))
      ∧ (notHeld s code origin → s.faults.entries.length = 48 →
          (∀ e ∈ s.faults.entries,
            e.treatment.cls.code ≤ (createdEntry s code origin parameter).treatment.cls.code) →
          answers (.raiseFault l p) s (fun t =>
            t.faults.entries = s.faults.entries ∧ t.faults.dropped = min 65535 (s.faults.dropped + 1)
              ∧ t.faults.moreFaults = true ∧ repliedWith ⟨0x41, [0x22, 15, 0, 0, 0]⟩ l s t ∧ t.chime = s.chime
              ∧ raiseKeeps s t))

/-- What an acknowledgement makes of an entry: ACTIVE-ACKED from ACTIVE-UNACKED, gone from CLEARED-UNACKED (R91). -/
def acknowledgedEntry (e : Entry) (now : Time) : Option Entry :=
  match e.state with
  | .activeUnacked => some { e with state := .activeAcked, lastChange := now }
  | .clearedUnacked => none
  | .activeAcked => some e

/-- The FAULT REPORTs of a change of some entries, in list order: REMOVED for an entry that leaves, as it stood, and the
event of the change for one that changes its state (R88, R91, R94, R101). -/
def changeReports (event agent : Nat) (change : Entry → Option Entry) (dropped : Nat) : List Entry → Nat → List Frame
  | [], _ => []
  | e :: rest, held =>
    match change e with
    | none => faultFrame 4 agent e (held - 1) dropped :: changeReports event agent change dropped rest (held - 1)
    | some new =>
      if new.state = e.state then changeReports event agent change dropped rest held
      else faultFrame event agent new held dropped :: changeReports event agent change dropped rest held

/-- The list after a change of some of its entries in their places, with the MORE FAULTS marker cleared by a removal
(R94) and everything else of the list but cursor and demand as it was. -/
def entriesChanged (change : Entry → Option Entry) (s t : State) : Prop :=
  t.faults.entries = s.faults.entries.filterMap change
    ∧ t.faults.moreFaults = (s.faults.moreFaults && s.faults.entries.all (fun e => (change e).isSome))
    ∧ t.faults.dropped = s.faults.dropped ∧ raiseKeeps s t

/-- CLEAR FAULT acts on one entry by code and origin, or with ALL on every entry of an origin, each by its state; where
none is held it is refused with NO ENTRY (R88, R89). The ACCEPT and then a FAULT REPORT of each change are queued, and
the continuous demand follows (R97, R101). -/
def Obligations.ClearFaultActsByEntryState : Prop :=
  ∀ (l : Link) (p : List Byte) (s : State) (code origin : Nat) (named : Entry → Bool), listSound s →
    received .clearFault l p s → code = (wordAt p 0).toNat → origin = (byteAt p 2).toNat →
    code < 1000 ∨ code = 0xffff → origin < 64 →
    named = (fun e => e.origin == origin && (code == 0xffff || e.code == code)) →
    ((∃ e ∈ s.faults.entries, named e = true) → answers (.clearFault l p) s (fun t =>
        entriesChanged (fun e => if named e then clearedEntry e s.now else some e) s t
          ∧ repliedThenReported ⟨0x40, [0x23]⟩ l (changeReports 3 (linkCode l)
              (fun e => if named e then clearedEntry e s.now else some e) s.faults.dropped s.faults.entries
              s.faults.entries.length) s t
          ∧ chimeFollows none s t))
      ∧ ((∀ e ∈ s.faults.entries, named e = false) → answers (.clearFault l p) s (fun t =>
          repliedWith ⟨0x41, [0x23, 14, 0, 0, 0]⟩ l s t ∧ unchangedExcept [.lp0, .lp1] s t))

/-- ACKNOWLEDGE FAULT acts on one entry, on every visible unacknowledged entry, or on every unacknowledged entry, each by
its state; ONE without an entry is refused with NO ENTRY (R91, R92). The ACCEPT and then a FAULT REPORT of each change
are queued, and the continuous demand follows (R97, R101). -/
def Obligations.AcknowledgeFaultActsByEntryState : Prop :=
  ∀ (l : Link) (p : List Byte) (s : State) (named : Entry → Bool), listSound s →
    received .acknowledgeFault l p s → (byteAt p 0).toNat ≤ 2 → (byteAt p 0 = 0 → (wordAt p 1).toNat ≤ 1010) →
    named = (fun e =>
      if byteAt p 0 = 0 then e.code == (wordAt p 1).toNat && e.origin == (byteAt p 3).toNat
      else if byteAt p 0 = 1 then e.visible else true) →
    (byteAt p 0 ≠ 0 ∨ (∃ e ∈ s.faults.entries, named e = true) → answers (.acknowledgeFault l p) s (fun t =>
        entriesChanged (fun e => if named e then acknowledgedEntry e s.now else some e) s t
          ∧ repliedThenReported ⟨0x40, [0x24]⟩ l (changeReports 2 (linkCode l)
              (fun e => if named e then acknowledgedEntry e s.now else some e) s.faults.dropped s.faults.entries
              s.faults.entries.length) s t
          ∧ chimeFollows none s t))
      ∧ (byteAt p 0 = 0 → (∀ e ∈ s.faults.entries, named e = false) → answers (.acknowledgeFault l p) s (fun t =>
          repliedWith ⟨0x41, [0x24, 14, 1, 0, 0]⟩ l s t ∧ unchangedExcept [.lp0, .lp1] s t))

/-- SET CONDITIONS replaces C0 to C11 alone and every entry is visible exactly when the word under its mask equals its
match; no FAULT REPORT is queued (R79, R80). -/
def Obligations.SetConditionsDecidesVisibility : Prop :=
  ∀ (l : Link) (p : List Byte) (s : State) (word : Word), listSound s → received .setConditions l p s →
    word = (s.faults.conditions &&& 0xf000) ||| (wordAt p 0 &&& 0x0fff) →
    answers (.setConditions l p) s (fun t =>
      t.faults.conditions = word
        ∧ t.faults.entries = s.faults.entries.map (fun e =>
            { e with visible := (word &&& e.treatment.mask) == e.treatment.mtch })
        ∧ (word = s.faults.conditions → t.faults = s.faults ∧ t.chime = s.chime)
        ∧ t.faults.catalogue = s.faults.catalogue ∧ t.faults.moreFaults = s.faults.moreFaults
        ∧ t.faults.dropped = s.faults.dropped
        ∧ acceptedQuietly .setConditions l s t
        ∧ unchangedExcept [.lp0, .lp1, .faults, .chime, .panel] s t)

/-! ## The lamp field (chapter 5) -/

/-- The active setting of a position is in its lit phase (R109, point 5). -/
def litPhase (s : State) (a : Active) : Prop :=
  match a with
  | .off => False
  | .steady _ => True
  | .slow _ => ∃ p, s.lamps.slowGenerator.period = some p ∧ s.elapsed p.start < p.onTime
  | .fast _ | .run _ _ _ => ∃ p, s.lamps.fastGenerator.period = some p ∧ s.elapsed p.start < p.onTime

/-- The position a channel belongs to and its own settings, by its pair's mode (section 5.1). -/
abbrev channelBelongs (s : State) (channel : Fin 24) (pair : Fin 12) (position : Fin 24) (c : ChannelSettings) : Prop :=
  pair.val = channel.val / 2
    ∧ position.val = (if s.lamps.pairs[pair].mode = .bicolour then 2 * (channel.val / 2) else channel.val)
    ∧ c = (if channel.val % 2 = 0 then s.lamps.pairs[pair].lower else s.lamps.pairs[pair].upper)

/-- The brightness of a channel for the level in force (R109). -/
def levelInForce (s : State) (c : ChannelSettings) : Nat :=
  if s.lamps.test.isSome ∨ s.lamps.dim = .day then c.day else c.night

/-- A channel is lit exactly when every condition of R109 holds, and is then driven at the brightness in force, else off;
so the two channels of a bicolour pair are never lit together (R111). -/
def Obligations.ChannelLitExactlyByItsConditions : Prop :=
  (∀ (s : State) (channel : Fin 24) (pair : Fin 12) (position : Fin 24) (c : ChannelSettings),
      channelBelongs s channel pair position c →
      (s.isLit channel = true ↔
        s.phase = .running ∧ s.lamps.output = .lit
          ∧ s.lamps.channels[channel].condition ≠ .shorted
          ∧ levelInForce s c ≠ 0
          ∧ (s.lamps.pairs[pair].mode = .bicolour →
              s.lamps.drives[pair].driven = some (if channel.val % 2 = 0 then .one else .two))
          ∧ (s.lamps.test.isSome → s.isBound position.val = true)
          ∧ (s.lamps.test = none → litPhase s s.lamps.positions[position].active))
        ∧ s.drive channel = (if s.isLit channel then levelInForce s c else 0))
    ∧ (∀ (s : State) (pair : Fin 12) (lower upper : Fin 24), s.lamps.pairs[pair].mode = .bicolour →
        lower.val = 2 * pair.val → upper.val = 2 * pair.val + 1 → ¬ (s.isLit lower = true ∧ s.isLit upper = true))

/-- SET LAMP CHANNEL, SET CADENCE, SET KEY, SET GENERAL and SET LINK each replace the settings they name and nothing
else; link settings wait for the queue of their link to empty (R104, R106, R136, R145, R146, R161). That LP1's settings
are taken up at once when its queue is empty (log 31), with the mark of earlier bytes (log 21), is the model's choice. -/
def Obligations.SettingOrdersReplaceTheirSettings : Prop :=
  ∀ (l : Link) (p : List Byte) (s : State),
    (∀ i : Fin 12, received .setLampChannel l p s → passes (setLampChannelChecks p) → (byteAt p 0).toNat = i.val →
        answers (.setLampChannel l p) s (fun t =>
          t.lamps.pairs[i] = ⟨if byteAt p 1 = 0 then .single else .bicolour, (byteAt p 2).toNat,
              ⟨(byteAt p 3).toNat, (byteAt p 4).toNat, (wordAt p 5).toNat, (wordAt p 7).toNat⟩,
              ⟨(byteAt p 9).toNat, (byteAt p 10).toNat, (wordAt p 11).toNat, (wordAt p 13).toNat⟩⟩
            ∧ (∀ j : Fin 12, j ≠ i → t.lamps.pairs[j] = s.lamps.pairs[j])
            ∧ t.lamps = { s.lamps with pairs := t.lamps.pairs }
            ∧ acceptedQuietly .setLampChannel l s t ∧ unchangedExcept [.lp0, .lp1, .lamps] s t))
      ∧ (received .setCadence l p s → (byteAt p 0).toNat ≤ 1 → (byteAt p 1).toNat ≤ 15 → (byteAt p 2).toNat ≤ 15 →
          answers (.setCadence l p) s (fun t =>
            (byteAt p 0 = 0 → t.lamps = { s.lamps with slowGenerator := { s.lamps.slowGenerator with
                onCode := (byteAt p 1).toNat, offCode := (byteAt p 2).toNat } })
              ∧ (byteAt p 0 = 1 → t.lamps = { s.lamps with fastGenerator := { s.lamps.fastGenerator with
                  onCode := (byteAt p 1).toNat, offCode := (byteAt p 2).toNat } })
              ∧ acceptedQuietly .setCadence l s t ∧ unchangedExcept [.lp0, .lp1, .lamps] s t))
      ∧ (∀ i : Fin 6, received .setKey l p s → passes (setKeyChecks p) → (byteAt p 0).toNat = i.val →
          answers (.setKey l p) s (fun t =>
            t.keys.keys[i] = { s.keys.keys[i] with settings :=
                ⟨(byteAt p 1).toNat, (byteAt p 2).toNat, (wordAt p 3).toNat, (wordAt p 5).toNat,
                 (byteAt p 7).toNat, byteAt p 8⟩ }
              ∧ (∀ j : Fin 6, j ≠ i → t.keys.keys[j] = s.keys.keys[j])
              ∧ t.keys = { s.keys with keys := t.keys.keys }
              ∧ acceptedQuietly .setKey l s t ∧ unchangedExcept [.lp0, .lp1, .keys] s t))
      ∧ (received .setGeneral l p s → passes (setGeneralChecks p) → answers (.setGeneral l p) s (fun t =>
          t.general.initialSystem = (byteAt p 0).toNat ∧ t.general.windowCode = (byteAt p 1).toNat
            ∧ (t.general.autoRestore = true ↔ byteAt p 2 = 1) ∧ (t.general.wakeMode = .reset ↔ byteAt p 3 = 1)
            ∧ t.general.fullScale = (wordAt p 4).toNat ∧ t.general.slewTime = (byteAt p 6).toNat
            ∧ t.general.permittedSlot.map Fin.val = (if byteAt p 7 = 0 then none else some (byteAt p 7).toNat)
            ∧ t.general.margin = (byteAt p 8).toNat ∧ t.general.hysteresis = (byteAt p 9).toNat
            ∧ t.general.bandLamp.map (fun b => (b.1.val, b.2)) = (if byteAt p 10 = 0xff then none
                else some ((byteAt p 10).toNat, if byteAt p 11 = 1 then .one else .two))
            ∧ (t.general.bandChime = true ↔ byteAt p 12 = 1) ∧ t.general.testLimit = (byteAt p 13).toNat
            ∧ acceptedQuietly .setGeneral l s t ∧ unchangedExcept [.lp0, .lp1, .general] s t))
      ∧ (∀ c : LinkSettings, received .setLink l p s → passes (setLinkChecks p) →
          c = ⟨(byteAt p 1).toNat, if byteAt p 2 = 0 then .none else if byteAt p 2 = 1 then .even else .odd,
            (byteAt p 3).toNat, (byteAt p 4).toNat, byteAt p 0 == 0 || byteAt p 5 == 1⟩ →
          answers (.setLink l p) s (fun t =>
            (byteAt p 0 = 0 → t.lp0 = { s.lp0.enqueue s.clock ⟨0x40, [0x17]⟩ with
                pendingSettings := some c, wokeAt := none }
                ∧ t.lp1 = s.lp1)
              ∧ (byteAt p 0 = 1 → t.lp0 = { s.lp0.enqueue s.clock ⟨0x40, [0x17]⟩ with wokeAt := none }
                  ∧ (s.lp1.queue ≠ [] → t.lp1 = { s.lp1 with pendingSettings := some c })
                  ∧ (s.lp1.queue = [] → t.lp1 = { s.lp1 with
                      settings := c, pendingSettings := none, receiver := .hunting, notBefore := some s.clock }))
              ∧ unchangedExcept [.lp0, .lp1] s t))

/-- OUTPUT REPORT as it gives a state (R120): the cause, and the end cause of a test. -/
def outputFrame (t : State) (cause ended : Nat) : Frame :=
  ⟨0x57, [BitVec.ofNat 8 t.lamps.output.code, BitVec.ofNat 8 cause, BitVec.ofNat 8 ended,
    BitVec.ofNat 8 t.lamps.dim.code, BitVec.ofNat 8 (testCode t.lamps.test),
    if t.faults.conditions.getLsbD 13 then 1 else 0, BitVec.ofNat 8 t.lamps.supply.code] ++ b32 t.now⟩

/-- The queue of LP0 grows by these frames, when it has room for them. -/
def queuesOnLp0 (frames : List Frame) (s t : State) : Prop :=
  s.lp0.queue.length + frames.length ≤ 8 → t.lp0.queue = s.lp0.queue ++ frames

/-- The test state is NONE after a test and every block that follows it has been told (R122). -/
def testOver (s t : State) : Prop :=
  t.lamps.test = none ∧ t.faults.conditions.getLsbD 15 = false ∧ t.meter.testFlag = false
    ∧ t.meter.speedTarget = s.meter.speedTarget ∧ lampSettingsKept s.lamps t.lamps

/-- SET DIM sets the dim state and reports a change alone; LAMP TEST ON is refused outside LIT, starts a test with its
end time, and leaves a running test as it is; LAMP TEST OFF and the limit end a test (R110, R121, R122). That the ACCEPT
of SET DIM and of LAMP TEST OFF comes before the OUTPUT REPORT is the model's choice (log 35). -/
def Obligations.DimAndLampTestOrders : Prop :=
  ∀ (l : Link) (p : List Byte) (s : State),
    (∀ d : DimState, received .setDim l p s → (byteAt p 0).toNat ≤ 1 → d = (if byteAt p 0 = 0 then .day else .night) →
        answers (.setDim l p) s (fun t =>
          t.lamps.dim = d ∧ t.lamps.output = s.lamps.output ∧ t.lamps.test = s.lamps.test
            ∧ t.lamps.positions = s.lamps.positions ∧ t.lamps.pairs = s.lamps.pairs
            ∧ (s.lamps.dim = d → acceptedQuietly .setDim l s t)
            ∧ (s.lamps.dim ≠ d → queuesOnLp0 [⟨0x40, [0x29]⟩, outputFrame t 5 0] s t)
            ∧ unchangedExcept [.lp0, .lamps, .panel] s t))
      ∧ (received .lampTest l p s → byteAt p 0 = 1 → s.lamps.output ≠ .lit → answers (.lampTest l p) s (fun t =>
          repliedWith ⟨0x41, [0x2A, 20, 0, 0, 0]⟩ l s t ∧ unchangedExcept [.lp0] s t))
      ∧ (received .lampTest l p s → byteAt p 0 = 1 → s.lamps.output = .lit → s.lamps.test = none →
          answers (.lampTest l p) s (fun t =>
            t.lamps.test = some ⟨.order, s.now + BitVec.ofNat 32 (s.general.testLimit * 1000), .one⟩
              ∧ t.faults.conditions.getLsbD 15 = true ∧ t.meter.testFlag = true ∧ t.meter.duty = s.meter.duty
              ∧ t.meter.speedTarget = s.meter.speedTarget ∧ lampSettingsKept s.lamps t.lamps
              ∧ queuesOnLp0 [⟨0x40, [0x2A]⟩, outputFrame t 6 0] s t
              ∧ unchangedExcept [.lp0, .faults, .lamps, .meter, .chime, .panel] s t))
      ∧ (received .lampTest l p s → byteAt p 0 = 1 → s.lamps.output = .lit → s.lamps.test.isSome →
          answers (.lampTest l p) s (fun t =>
            acceptedQuietly .lampTest l s t ∧ unchangedExcept [.lp0] s t))
      ∧ (received .lampTest l p s → byteAt p 0 = 0 → s.lamps.test = none → answers (.lampTest l p) s (fun t =>
          acceptedQuietly .lampTest l s t ∧ unchangedExcept [.lp0] s t))
      ∧ (received .lampTest l p s → byteAt p 0 = 0 → s.lamps.test.isSome → answers (.lampTest l p) s (fun t =>
          testOver s t ∧ queuesOnLp0 [⟨0x40, [0x2A]⟩, outputFrame t 7 0] s t
            ∧ unchangedExcept [.lp0, .faults, .lamps, .meter, .chime, .panel] s t))
      ∧ (∀ test : LampTest, s.lamps.test = some test → s.reached test.endTime = true →
          answers .lampTestLimit s (fun t =>
            testOver s t ∧ queuesOnLp0 [outputFrame t 7 2] s t
              ∧ unchangedExcept [.lp0, .faults, .lamps, .meter, .chime, .panel] s t))

/-- Every ASPECT slot in LIVE is DEGRADED exactly when one of its used channels is OPEN or SHORTED, and no other field of
the table has changed (R115). -/
def assessed (s t : State) : Prop :=
  (∀ i : Fin 64, s.table[i].isAspect = true → s.table[i].state = .live →
      (t.table[i].degraded = true ↔ t.failingChannels t.table[i] ≠ []))
    ∧ (∀ i : Fin 64, t.table[i] = { s.table[i] with degraded := t.table[i].degraded })
    ∧ (∀ i : Fin 64, s.table[i].isAspect = false ∨ s.table[i].state ≠ .live → t.table[i] = s.table[i])

/-- LAMP RESET makes a SHORTED channel NORMAL, reports it, clears fault 1006 and reassesses the aspects; on any other
channel it is accepted without effect (R114). RESUME OUTPUTS lights the desk from RESUME WAIT and is refused with NOT
DARK in every other output state (R118). That its ACCEPT comes before the OUTPUT REPORT is the model's choice (log 35). -/
def Obligations.LampResetAndResumeOutputs : Prop :=
  ∀ (l : Link) (p : List Byte) (s : State),
    (∀ channel : Fin 24, received .lampReset l p s → (byteAt p 0).toNat = channel.val → listSound s →
        s.lamps.channels[channel].condition = .shorted → answers (.lampReset l p) s (fun t =>
          t.lamps.channels[channel].condition = .normal ∧ t.lamps.channels[channel].lastResult = none
            ∧ (∀ other : Fin 24, other ≠ channel →
                t.lamps.channels[other].condition = s.lamps.channels[other].condition)
            ∧ faultInactive t 1006 (128 + channel.val) ∧ assessed s t
            ∧ t.lamps.positions = s.lamps.positions ∧ t.lamps.output = s.lamps.output
            ∧ (s.lp0.queue.length < 7 → (s.lp0.queue ++ [⟨0x40, [0x2B]⟩,
                ⟨0x58, [BitVec.ofNat 8 channel.val, 2, 0, 1, 0, 0] ++ b32 s.now⟩]) <+: t.lp0.queue)
            ∧ unchangedExcept [.lp0, .table, .faults, .lamps, .chime, .panel] s t))
      ∧ (∀ channel : Fin 24, received .lampReset l p s → (byteAt p 0).toNat = channel.val →
          s.lamps.channels[channel].condition ≠ .shorted → answers (.lampReset l p) s (fun t =>
            acceptedQuietly .lampReset l s t ∧ unchangedExcept [.lp0] s t))
      ∧ (received .resumeOutputs l p s → s.lamps.output = .resumeWait → answers (.resumeOutputs l p) s (fun t =>
          t.lamps.output = .lit ∧ t.keys.outputHeld = .lit ∧ lampSettingsKept s.lamps t.lamps
            ∧ t.keys.keys = s.keys.keys
            ∧ (s.chime.continuousHeld = true → t.chime.sounding = some (.continuous, s.clock))
            ∧ (s.chime.continuousHeld = false → t.chime = s.chime)
            ∧ (∀ n : Nat, 1 ≤ n → n ≤ 20 → t.panel.dirty.getLsbD n = true)
            ∧ queuesOnLp0 [⟨0x40, [0x2C]⟩, outputFrame t 4 0] s t
            ∧ unchangedExcept [.lp0, .lamps, .meter, .chime, .panel, .keys] s t))
      ∧ (received .resumeOutputs l p s → s.lamps.output ≠ .resumeWait → answers (.resumeOutputs l p) s (fun t =>
          repliedWith ⟨0x41, [0x2C, 19, 0, 0, 0]⟩ l s t ∧ unchangedExcept [.lp0] s t))

/-- What a position shows from a period start on, by its setting that waited (R107, R108). -/
def shownFrom : Setting → Active
  | .off => .off
  | .steady c => .steady c
  | .slow c => .slow c
  | .fast c => .fast c
  | .attention c n => .run c n 1

/-- An attention run at a later FAST period start: one further, or ended in STEADY once it has made its count (R108). -/
def runOneFurther : Active → Active
  | .run c n k => if k < n then .run c n (k + 1) else .steady c
  | a => a

/-- A position before and after a period start of a generator. -/
def positionAtPeriodStart (g : Generator) (before after : Position) : Prop :=
  after.requested = before.requested
    ∧ (∀ w, before.waiting = some w → generatorFor w = some g → after.waiting = none ∧ after.active = shownFrom w)
    ∧ ((∀ w, before.waiting = some w → generatorFor w ≠ some g) →
        after.waiting = before.waiting
          ∧ after.active = (if g = .fast then runOneFurther before.active else before.active))

/-- The colour a BICOLOUR pair wants: none outside LIT, the test colour of a bound position during lamp test, else the
colour of the active setting (R111). -/
def wantedColour (s : State) (pair : Fin 12) : Option Colour :=
  if s.lamps.output ≠ .lit then none
  else
    match s.lamps.test with
    | some test => if s.isBound (2 * pair.val) then some test.colour else none
    | none => Active.colour (s.lamps.positions[(⟨2 * pair.val, by omega⟩ : Fin 24)]).active

/-- A request for a position is taken by R107, and the lamp field's other positions stand. At a period start the next
period begins where the last ended with the codes in force, waiting settings become active, attention runs advance, a SLOW
start turns the test colour and lights a desk in RESTORE PENDING (R106 to R108, R117, R122). When a pair's dead time ends
it drives the colour wanted at that moment (R111). -/
def Obligations.RequestPeriodStartAndSwitchingEnd : Prop :=
  (∀ (position : Fin 24) (r : Setting) (s t : State), t = requestLamp position.val r s →
      t.lamps.positions[position] = requestTaken s.lamps.positions[position] r
        ∧ (∀ other : Fin 24, other ≠ position → t.lamps.positions[other] = s.lamps.positions[other])
        ∧ t.lamps = { s.lamps with positions := t.lamps.positions } ∧ unchangedExcept [.lamps] s t) ∧
  (∀ (g : Generator) (s : State) (p : Period), (s.generator g).period = some p →
      s.due (plusUs p.start (p.onTime + p.offTime)) = true → answers (.periodStart g) s (fun t =>
        t.generator g = { s.generator g with period := some ⟨plusUs p.start (p.onTime + p.offTime),
            cadenceMs (s.generator g).onCode * 1000, cadenceMs (s.generator g).offCode * 1000⟩ }
          ∧ (∀ other : Generator, other ≠ g → t.generator other = s.generator other)
          ∧ (∀ i : Fin 24, positionAtPeriodStart g s.lamps.positions[i] t.lamps.positions[i])
          ∧ t.lamps.test = (if g = .slow then s.lamps.test.map (fun test => { test with
              colour := if test.colour = .one then .two else .one }) else s.lamps.test)
          ∧ t.lamps.pairs = s.lamps.pairs ∧ t.lamps.dim = s.lamps.dim ∧ t.lamps.supply = s.lamps.supply
          ∧ (g = .slow → s.lamps.output = .restorePending →
              t.lamps.output = .lit ∧ t.keys.outputHeld = .lit ∧ queuesOnLp0 [outputFrame t 3 0] s t)
          ∧ (g = .fast ∨ s.lamps.output ≠ .restorePending → t.lamps.output = s.lamps.output
              ∧ unchangedExcept [.lamps, .panel] s t)
          ∧ unchangedExcept [.lp0, .lamps, .meter, .chime, .panel, .keys] s t))
    ∧ (∀ (pair : Fin 12) (s : State) (moment : Nat), s.lamps.pairs[pair].mode = .bicolour →
        s.lamps.drives[pair].switching = some moment → s.due moment = true →
        answers (.switchingEnd pair) s (fun t =>
          t.lamps.drives[pair] = ⟨wantedColour s pair, none⟩
            ∧ t.lamps.positions = s.lamps.positions ∧ t.lamps.pairs = s.lamps.pairs
            ∧ t.lamps.output = s.lamps.output ∧ t.lamps.test = s.lamps.test
            ∧ unchangedExcept [.lamps, .panel] s t))

/-- The result of a sample (R112). -/
def resultOf (c : ChannelSettings) (current : Nat) : SampleResult :=
  if current < c.openThreshold then .low else if c.shortThreshold < current then .high else .ok

/-- The condition of a channel after a sample (the table of R113). -/
def conditionAfter (before : LampCondition) (last : Option SampleResult) (now : SampleResult) : LampCondition :=
  if before = .normal ∧ last = some .low ∧ now = .low then .openLamp
  else if before = .normal ∧ last = some .high ∧ now = .high then .shorted
  else if before = .openLamp ∧ last = some .ok ∧ now = .ok then .normal
  else if before = .openLamp ∧ last = some .high ∧ now = .high then .shorted
  else before

/-- A due sample is judged with the one before it; without a change of condition it becomes the last result, and a change
makes the last result absent, reports the lamp, raises and clears faults 1005 and 1006 and reassesses the aspects (R112,
R113, R115). -/
def Obligations.LampSampleJudgesChannel : Prop :=
  ∀ (channel : Fin 24) (current : Nat) (s : State) (pair : Fin 12) (position : Fin 24) (c : ChannelSettings)
    (before after : LampCondition), listSound s → s.sampleDue channel = true →
    channelBelongs s channel pair position c → before = s.lamps.channels[channel].condition →
    after = conditionAfter before (s.lamps.channels[channel].lastResult.map Prod.fst) (resultOf c current) →
    answers (.lampSample channel current) s (fun t =>
      t.lamps.channels[channel].condition = after
        ∧ (∀ other : Fin 24, other ≠ channel →
            t.lamps.channels[other].condition = s.lamps.channels[other].condition
              ∧ t.lamps.channels[other].lastResult = s.lamps.channels[other].lastResult)
        ∧ (after = before → t.lamps.channels[channel].lastResult = some (resultOf c current, current)
            ∧ unchangedExcept [.lamps] s t)
        ∧ (after ≠ before → t.lamps.channels[channel].lastResult = none ∧ assessed s t
            ∧ repliesFirst ⟨0x58, [BitVec.ofNat 8 channel.val, BitVec.ofNat 8 before.code,
                BitVec.ofNat 8 after.code, 0] ++ n16 current ++ b32 s.now⟩ .lp0 s t)
        ∧ (before = .openLamp → after ≠ .openLamp → faultInactive t 1005 (128 + channel.val))
        ∧ (∀ code : Nat, (after = .openLamp ∧ code = 1005) ∨ (after = .shorted ∧ code = 1006) → after ≠ before →
            hasRoom s → (∀ i : Fin 64, s.table[i].isAspect = false) →
            holdsFault t code (128 + channel.val) (some (BitVec.ofNat 16 current)))
        ∧ t.lamps.positions = s.lamps.positions ∧ t.lamps.output = s.lamps.output
        ∧ unchangedExcept [.lp0, .table, .faults, .lamps, .chime, .panel] s t)

/-- The output state after CAB DARK or the supply state has changed (the table of R117). -/
def outputAfter (before : OutputState) (dark autoRestore : Bool) : OutputState :=
  match before, dark with
  | .quiet, _ => .quiet
  | .lit, false => .lit
  | .dark, false => if autoRestore then .restorePending else .resumeWait
  | .restorePending, false => .restorePending
  | .resumeWait, false => .resumeWait
  | .lit, true | .dark, true | .restorePending, true | .resumeWait, true => .dark

/-- What a change of CAB DARK or of the supply state does to the outputs: the output state moves by its table and is
handed to the key scanner, one OUTPUT REPORT is queued unless the desk is QUIET, and on leaving LIT the meter drops to 0,
the chime falls silent, no pair is driven, last results are absent and a test ends (R117, R119, R120). -/
def darknessTaken (cause : Nat) (dark : Bool) (s t : State) : Prop :=
  t.lamps.output = outputAfter s.lamps.output dark s.general.autoRestore
    ∧ lampSettingsKept { s.lamps with supply := t.lamps.supply } t.lamps
    ∧ (t.lamps.output ≠ s.lamps.output → t.keys = { s.keys with outputHeld := t.lamps.output })
    ∧ (t.lamps.output = s.lamps.output → t.keys = s.keys)
    ∧ (s.lamps.output ≠ .quiet →
        repliesFirst (if s.lamps.output = .lit ∧ dark = true ∧ s.lamps.test.isSome then outputFrame t 7 3
          else outputFrame t cause 0) .lp0 s t)
    ∧ (s.lamps.output = .lit → dark = true → t.meter.duty = 0 ∧ t.meter.moving = false
        ∧ t.meter.speedTarget = s.meter.speedTarget ∧ t.chime.sounding = none ∧ t.chime.pending = .none
        ∧ (∀ i : Fin 12, t.lamps.drives[i] = ⟨none, none⟩)
        ∧ (∀ i : Fin 24, t.lamps.channels[i].lastResult = none) ∧ t.lamps.test = none)

/-- A level of the desk-dark line taken after 10 ms changes CAB DARK, and the supply below the dip level for 20 ms or
above it for 100 ms changes the supply state; each moves the outputs, DIP raising and clearing fault 1010 in RUNNING. A
change of the line or a crossing of the level is held with its moment (R116, R117, R119, R120, R168). -/
def Obligations.DarknessMovesTheOutputs : Prop :=
  ∀ s : State,
    (s.inReset = false → s.phase ≠ .dormant → s.deskDark.asserted ≠ s.faults.conditions.getLsbD 13 →
        10000 ≤ s.elapsed s.deskDark.since → answers .deskDarkTaken s (fun t =>
          t.faults.conditions.getLsbD 13 = s.deskDark.asserted
            ∧ darknessTaken 1 (s.deskDark.asserted || s.lamps.supply == .dip) s t
            ∧ unchangedExcept [.lp0, .faults, .lamps, .meter, .chime, .panel, .keys] s t))
      ∧ (s.inReset = false → s.supply.state = .normal → s.supply.below = true → 20000 ≤ s.elapsed s.supply.since →
          answers .dipEntry s (fun t =>
            t.supply = { s.supply with state := .dip, raised := s.supply.raised || s.phase == .running }
              ∧ t.lamps.supply = .dip ∧ darknessTaken 2 true s t
              ∧ (s.phase = .running → hasRoom s → faultActive t 1010 200)
              ∧ unchangedExcept [.lp0, .supply, .faults, .lamps, .meter, .chime, .panel, .keys] s t))
      ∧ (listSound s → s.inReset = false → s.supply.state = .dip → s.supply.below = false →
          100000 ≤ s.elapsed s.supply.since → answers .dipEnd s (fun t =>
            t.supply = { s.supply with state := .normal, raised := false }
              ∧ t.lamps.supply = .normal ∧ darknessTaken 2 (s.faults.conditions.getLsbD 13) s t
              ∧ (s.supply.raised = true → faultInactive t 1010 200)
              ∧ unchangedExcept [.lp0, .supply, .faults, .lamps, .meter, .chime, .panel, .keys] s t))
      ∧ (∀ level : Bool, answers (.deskDarkLineChange level) s (fun t =>
          t.deskDark = (if s.deskDark.asserted = level then s.deskDark else ⟨level, s.clock⟩)
            ∧ unchangedExcept [.deskDark] s t))
      ∧ (∀ below : Bool, answers (.supplyDipLevelCrossing below) s (fun t =>
          t.supply = (if s.supply.below = below then s.supply
            else { s.supply with below := below, since := s.clock })
            ∧ unchangedExcept [.supply] s t))

/-! ## Meter, chime and panel (chapter 6) -/

/-- The priority of a pattern (R127). -/
def priority : ChimePattern → Nat
  | .none => 0
  | .single => 1
  | .triple => 2
  | .continuous => 3

/-- A SINGLE or TRIPLE pattern has sounded for its length (R127). -/
abbrev patternEnded (p : ChimePattern) (us : Nat) : Prop := (p = .single ∧ 200000 ≤ us) ∨ (p = .triple ∧ 750000 ≤ us)

/-- The meter's target is the displayed speed over full scale, to the nearest per mille and at most 1000 (R124); its duty
moves toward the target by 12 / slew time of 1/12000 per mille a microsecond, without passing it, in LIT alone, and
stops there (R125, R126). The chime takes a SINGLE or TRIPLE request by what sounds and what is pending (R128), and a
pattern that ends gives way to the pending request (R129). A CONTINUOUS request sets continuous held and in LIT
pre-empts what sounds, keeping pending; its withdrawal clears it and lets pending sound (R128, R129). A request of SINGLE
or TRIPLE together with the end of a pattern has one result in both orders: the higher of request and pending sounds, a
lower request waits, and the other is lost (R130, row 1; the mark `succeeded` is the model's own, log 34). -/
def Obligations.MeterAndChimeFollowTheirTables : Prop :=
  (∀ (s : State) (v target : Nat), 0 < s.general.fullScale →
      target = (presentToMeter (some v) s).meter.speedTarget →
      target ≤ 1000
        ∧ 2 * target * s.general.fullScale ≤ 2 * v * 1000 + s.general.fullScale
        ∧ (target < 1000 → 2 * v * 1000 + s.general.fullScale < 2 * (target + 1) * s.general.fullScale)
        ∧ (presentToMeter none s).meter.speedTarget = 0)
    ∧ (∀ (s t : State) (target : Nat), t = tickMeter s → target = 12000 * s.meter.target →
        1 ≤ s.general.slewTime → s.general.slewTime ≤ 4 →
        (s.lamps.output ≠ .lit ∨ s.meter.moving = false → t.meter.duty = s.meter.duty)
          ∧ (s.lamps.output = .lit → s.meter.moving = true → s.meter.duty ≤ target →
              t.meter.duty = min target (s.meter.duty + 12 / s.general.slewTime))
          ∧ (s.lamps.output = .lit → s.meter.moving = true → target ≤ s.meter.duty →
              t.meter.duty = max target (s.meter.duty - 12 / s.general.slewTime))
          ∧ unchangedExcept [.meter] s t)
    ∧ (∀ s : State, s.meter.moving = true → s.meter.duty = 12000 * s.meter.target →
        answers .meterTargetReached s (fun t =>
          t.meter = { s.meter with moving := false } ∧ unchangedExcept [.meter] s t))
    ∧ (∀ (s t : State) (p : ChimePattern), p = .single ∨ p = .triple → t = requestOneShot p s →
        (s.lamps.output ≠ .lit → t = s)
          ∧ (s.lamps.output = .lit → s.chime.sounding = none →
              t.chime = { s.chime with sounding := some (p, s.clock), succeeded := false })
          ∧ (∀ q start, s.lamps.output = .lit → s.chime.sounding = some (q, start) →
              ¬ patternEnded q (s.elapsed start) → ¬ (s.chime.succeeded = true ∧ q = p ∧ start = s.clock) →
              (priority q < priority p →
                  t.chime = { s.chime with sounding := some (p, s.clock), succeeded := false })
                ∧ (priority p ≤ priority q → priority s.chime.pending < priority p →
                    t.chime = { s.chime with pending := p })
                ∧ (priority p ≤ priority q → priority p ≤ priority s.chime.pending → t = s))
          ∧ unchangedExcept [.chime] s t)
    ∧ (∀ (s : State) (p : ChimePattern) (start : Nat), s.chime.sounding = some (p, start) →
        patternEnded p (s.elapsed start) → answers .chimePatternEnd s (fun t =>
          (s.chime.pending = .none → t.chime = { s.chime with sounding := none, succeeded := false })
            ∧ (s.chime.pending ≠ .none → t.chime = { s.chime with
                sounding := some (s.chime.pending, s.clock), pending := .none, succeeded := true })
            ∧ unchangedExcept [.chime] s t))
    ∧ (∀ s t : State, t = requestContinuous s →
        (s.chime.continuousHeld = true → t = s)
          ∧ (s.chime.continuousHeld = false → s.lamps.output = .lit → t.chime =
              { s.chime with continuousHeld := true, sounding := some (.continuous, s.clock), succeeded := false })
          ∧ (s.chime.continuousHeld = false → s.lamps.output ≠ .lit → t.chime = { s.chime with continuousHeld := true })
          ∧ unchangedExcept [.chime] s t)
    ∧ (∀ s t : State, t = withdrawContinuous s →
        (s.chime.continuousHeld = false → t = s)
          ∧ (∀ start, s.chime.continuousHeld = true → s.chime.sounding = some (.continuous, start) →
              (s.chime.pending = .none → t.chime = ⟨none, .none, false, false⟩)
                ∧ (s.chime.pending ≠ .none → t.chime = ⟨some (s.chime.pending, s.clock), .none, false, false⟩))
          ∧ (s.chime.continuousHeld = true → (∀ start, s.chime.sounding ≠ some (.continuous, start)) →
              t.chime = { s.chime with continuousHeld := false })
          ∧ unchangedExcept [.chime] s t)
    ∧ (∀ (s u t : State) (p q : ChimePattern) (start : Nat), p = .single ∨ p = .triple → s.lamps.output = .lit →
        s.chime.sounding = some (q, start) → patternEnded q (s.elapsed start) → exec .chimePatternEnd s = .next u →
        t = requestOneShot p s →
        requestOneShot p u = t ∧ exec .chimePatternEnd t = .next t
          ∧ (priority s.chime.pending ≤ priority p →
              t.chime.sounding = some (p, s.clock) ∧ t.chime.pending = .none)
          ∧ (priority p < priority s.chime.pending →
              t.chime.sounding = some (s.chime.pending, s.clock) ∧ t.chime.pending = p))

/-- An item may be sent in the present phase and output state (the table of R134). -/
abbrev sendableNow (s : State) (n : Nat) : Prop :=
  s.inReset = false ∧ n ≤ 20
    ∧ ((s.phase = .running ∧ (n = 0 ∨ s.lamps.output = .lit))
      ∨ (s.phase = .configuring ∧ n = 0 ∧ s.sleep.waiting = false))

/-- The transmitter chooses the lowest-numbered sendable item of a dirty set: its frame begins now with the content as
read now and it leaves the set; with none, the line is idle (R134). -/
def panelChooses (s : State) (dirty : BitVec 21) (t : State) : Prop :=
  (∀ n : Nat, dirty.getLsbD n = true → sendableNow s n → (∀ m, m < n → dirty.getLsbD m = true → ¬ sendableNow s m) →
      t.panel.sending = some ⟨panelItem n s, s.clock⟩ ∧ t.panel.dirty = dirty &&& ~~~(BitVec.twoPow 21 n))
    ∧ ((∀ n : Nat, dirty.getLsbD n = true → ¬ sendableNow s n) → t.panel.sending = none ∧ t.panel.dirty = dirty)

/-- A NUMBER slot is bound to a panel field, with its decimal places (section 1.1). -/
def boundToField (x : Slot) (field places : Nat) : Prop :=
  ∃ d fallback range, x.definition = some d ∧ d.body = .number fallback (some field) range places

/-- The end of a panel frame lets the transmitter choose the next item; the refresh period's end marks all 21 items and
begins the next period, and an idle transmitter chooses (R133, R134). PANEL STATUS, PANEL FIELD and PANEL FAULT LINE
carry the fields of R132 in the layouts of section 9.6. -/
def Obligations.PanelSendsLowestDirtyItem : Prop :=
  (∀ (s : State) (f : PanelFrame), s.panel.sending = some f →
      (f.frame.payload.length + 5) * 10 * 1000000 ≤ s.elapsed f.start * 115200 →
      answers .panelFrameEnd s (fun t =>
        panelChooses s s.panel.dirty t ∧ t.panel.refresh = s.panel.refresh ∧ unchangedExcept [.panel] s t))
    ∧ (∀ (s : State) (moment : Nat), s.panel.refresh = some moment → s.due moment = true →
        answers .panelRefreshExpiry s (fun t =>
          t.panel.refresh = some (plusUs moment 1000000)
            ∧ (s.panel.sending = none → panelChooses s (BitVec.allOnes 21) t)
            ∧ (∀ f, s.panel.sending = some f → t.panel.sending = some f ∧ t.panel.dirty = BitVec.allOnes 21)
            ∧ unchangedExcept [.panel] s t))
    ∧ (∀ s : State, panelItem 0 s = ⟨0x60, [BitVec.ofNat 8 s.phase.code, BitVec.ofNat 8 s.changeover.active,
        if s.changeover.transit.isSome then 1 else 0, BitVec.ofNat 8 s.speed.direction.code,
        BitVec.ofNat 8 s.lamps.dim.code, BitVec.ofNat 8 s.band.code, BitVec.ofNat 8 s.lamps.output.code,
        BitVec.ofNat 8 (testCode s.lamps.test), if s.faults.moreFaults then 1 else 0,
        BitVec.ofNat 8 s.faults.cursor,
        BitVec.ofNat 8 (((s.faults.entries.filter (fun e => e.visible)).length + 3) / 4)]⟩)
    ∧ (∀ (s : State) (field : Nat), field ≤ 15 →
        (s.phase ≠ .running ∨ (∀ i : Fin 64, ∀ places, ¬ boundToField s.table[i] field places) →
            panelItem (1 + field) s = ⟨0x61, [BitVec.ofNat 8 field, 2, 0, 0, 0]⟩)
          ∧ (∀ (i : Fin 64) (places : Nat), s.phase = .running → boundToField s.table[i] field places →
              (∀ j : Fin 64, j ≠ i → ∀ others, ¬ boundToField s.table[j] field others) →
              (∀ v : Int, s.table[i].shown = .number (some v) → panelItem (1 + field) s =
                  ⟨0x61, [BitVec.ofNat 8 field, 0] ++ b16 (BitVec.ofInt 16 v) ++ [BitVec.ofNat 8 places]⟩)
                ∧ (s.table[i].shown = .number none →
                    panelItem (1 + field) s = ⟨0x61, [BitVec.ofNat 8 field, 1, 0, 0, 0]⟩)))
    ∧ (∀ (s : State) (line : Nat), line ≤ 3 → panelItem (17 + line) s =
        match (s.faults.entries.filter (fun e => e.visible))[4 * s.faults.cursor + line]? with
        | some e => ⟨0x62, [BitVec.ofNat 8 line, 0] ++ entryBytes e⟩
        | none => ⟨0x62, [BitVec.ofNat 8 line, 1] ++ List.replicate 15 0⟩)

/-! ## Desk keys (chapter 7) -/

/-- A sample is TOUCHED against a learned baseline (R139). -/
def touched (k : Key) (baseline sample : Nat) : Bool := sample + k.settings.touch < baseline

/-- A sample is UNTOUCHED against a learned baseline (R139). -/
def untouched (k : Key) (baseline sample : Nat) : Bool :=
  !touched k baseline sample && decide (baseline < sample + k.settings.release)

/-- A key after a sample while its baseline is being learned (R138). -/
def learningKey (k : Key) (sample : BitVec 12) : Key :=
  { k with
    lastSample := some sample, sampleCount := k.sampleCount + 1, sampleSum := k.sampleSum + sample.toNat
    baseline := if k.sampleCount + 1 = 8 then some ((2 * (k.sampleSum + sample.toNat) + 8) / 16) else none }

/-- A RELEASED key's baseline and track count after a judged sample (R138). -/
def trackedKey (k : Key) (baseline sample : Nat) : Key :=
  if untouched k baseline sample then
    if k.track = 15 then
      { k with track := 0, baseline := some (
          if baseline < sample then baseline + 1 else if sample < baseline then baseline - 1 else baseline) }
    else { k with track := k.track + 1 }
  else { k with track := 0 }

/-- A key after its sample of a scan (R138 to R140). -/
def keyAfter (k : Key) (sample : BitVec 12) (now : Time) : Key :=
  match k.baseline with
  | none => learningKey k sample
  | some baseline =>
    let sampled := { k with lastSample := some sample }
    match k.state with
    | .released =>
      let held := trackedKey sampled baseline sample.toNat
      if touched k baseline sample.toNat then
        if k.run = 2 then
          { held with state := .pressed, run := 0, pressTime := some now
                      stuckTimer := some (now + BitVec.ofNat 32 (k.settings.stuckLimit * 1000)) }
        else { held with run := k.run + 1 }
      else { held with run := 0 }
    | .pressed | .stuck =>
      if untouched k baseline sample.toNat then
        if k.run = 2 then { sampled with state := .released, run := 0, pressTime := none, stuckTimer := none }
        else { sampled with run := k.run + 1 }
      else { sampled with run := 0 }

/-- The key changes its state at this sample. -/
abbrev keyChanges (k : Key) (sample : BitVec 12) (now : Time) : Prop := (keyAfter k sample now).state ≠ k.state

/-- KEY REPORT for a key as it stands (R142): event 0 PRESSED, 1 RELEASED, 2 STUCK. -/
def keyReportFrame (i : Fin 6) (event : Nat) (fromStuck : Bool) (k : Key) (now : Time) : Frame :=
  ⟨0x56, [BitVec.ofNat 8 i.val, BitVec.ofNat 8 event, if fromStuck then 1 else 0]
    ++ n16 ((k.lastSample.map BitVec.toNat).getD 0) ++ n16 (k.baseline.getD 0) ++ b32 now⟩

/-- The KEY REPORT stands first on each link of the report set, LP1 only while enabled (R142). -/
def keyReported (f : Frame) (reports : Byte) (s t : State) : Prop :=
  (reports.getLsbD 0 = true → repliesFirst f .lp0 s t)
    ∧ (reports.getLsbD 1 = true → s.lp1.settings.enabled = true → t.lp1 = s.lp1.enqueue s.clock f)
    ∧ (reports.getLsbD 1 = false ∨ s.lp1.settings.enabled = false → t.lp1 = s.lp1)

/-- The local action of a press in LIT (R141): ACK acknowledges the first visible unacknowledged entry, PAGE UP and PAGE
DOWN move the cursor, LAMP TEST starts a test of source KEY and has no effect during a test (R121), DIM toggles. -/
def pressActs (i : Fin 6) (s t : State) : Prop :=
  (i = 0 → ∀ (before after : List Entry) (e : Entry), s.faults.entries = before ++ e :: after →
      e.visible = true → e.state ≠ .activeAcked →
      (∀ b ∈ before, ¬ (b.visible = true ∧ b.state ≠ .activeAcked)) →
      t.faults.entries = before ++ (acknowledgedEntry e s.now).toList ++ after)
    ∧ (i = 1 → t.faults.cursor = s.faults.cursor - 1 ∧ t.faults.entries = s.faults.entries)
    ∧ (i = 2 → t.faults.cursor = (if s.faults.cursor + 1 < s.faults.pages then s.faults.cursor + 1 else s.faults.cursor)
        ∧ t.faults.entries = s.faults.entries)
    ∧ (i = 3 → s.lamps.test = none → t.lamps.test =
        some ⟨.key, s.now + BitVec.ofNat 32 (s.general.testLimit * 1000), .one⟩)
    ∧ (i = 3 → s.lamps.test.isSome → t.lamps.test = s.lamps.test ∧ t.lamps.dim = s.lamps.dim
        ∧ unchangedExcept [.lp0, .lp1, .lamps, .panel, .keys] s t)
    ∧ (i = 4 → t.lamps.dim = (if s.lamps.dim = .day then .night else .day))
    ∧ (i ≠ 3 → t.lamps.test = s.lamps.test) ∧ (i ≠ 4 → t.lamps.dim = s.lamps.dim)

/-- A scan samples all six keys and each key's state follows its own sample alone. With no change of state nothing is
reported or done; a press or release in LIT is reported, then acts; one taken outside LIT does neither, and a release
from STUCK clears fault 1007 (R137 to R142). Of two keys that change in one scan, the lower-numbered one's report and
action come first, and the panel frame that its effects let begin carries the content as it stands before the next key
(R134, R137). The stuck timer makes a PRESSED key STUCK, reported in LIT, and raises fault 1007 (R140). The
byte "from STUCK" of PRESSED and STUCK, 0, is the model's choice (log 33). -/
def Obligations.KeysFollowSamplesAndStuckTimer : Prop :=
  (∀ (samples : Vector (BitVec 12) 6) (s : State) (moment : Nat), listSound s → s.phase = .running →
      s.keys.scanAt = some moment → s.due moment = true → (∀ i : Fin 6, s.keys.keys[i].run ≤ 2) →
      answers (.keyScan samples) s (fun t =>
        t.keys.scanAt = some (plusUs moment 20000) ∧ t.keys.outputHeld = s.keys.outputHeld
          ∧ (∀ i : Fin 6, t.keys.keys[i] = keyAfter s.keys.keys[i] samples[i] s.now)
          ∧ ((∀ i : Fin 6, ¬ keyChanges s.keys.keys[i] samples[i] s.now) →
              t.lamps.test = s.lamps.test ∧ t.lamps.dim = s.lamps.dim ∧ unchangedExcept [.keys, .lamps, .panel] s t)
          ∧ (∀ i : Fin 6, keyChanges s.keys.keys[i] samples[i] s.now →
              (∀ j : Fin 6, j ≠ i → ¬ keyChanges s.keys.keys[j] samples[j] s.now) →
              (s.keys.outputHeld = .lit → keyReported (keyReportFrame i
                  (if t.keys.keys[i].state = .pressed then 0 else 1) (s.keys.keys[i].state == .stuck)
                  t.keys.keys[i] s.now) s.keys.keys[i].settings.reports s t)
                ∧ (s.keys.outputHeld = .lit → t.keys.keys[i].state = .pressed → pressActs i s t)
                ∧ (s.keys.outputHeld ≠ .lit → s.keys.keys[i].state ≠ .stuck →
                    t.lamps.test = s.lamps.test ∧ t.lamps.dim = s.lamps.dim
                      ∧ unchangedExcept [.keys, .lamps, .panel] s t)
                ∧ (s.keys.outputHeld = .lit → i = 3 → s.keys.keys[i].state = .pressed →
                    ∀ test, s.lamps.test = some test →
                    t.lamps.test = (if test.source = .key then none else some test))
                ∧ (s.keys.keys[i].state = .stuck → faultInactive t 1007 (160 + i.val)
                    ∧ t.lamps.test = s.lamps.test))
          ∧ (∀ i j : Fin 6, i < j → keyChanges s.keys.keys[i] samples[i] s.now →
              keyChanges s.keys.keys[j] samples[j] s.now →
              (∀ k : Fin 6, k ≠ i → k ≠ j → ¬ keyChanges s.keys.keys[k] samples[k] s.now) →
              s.keys.outputHeld = .lit →
              (s.keys.keys[i].settings.reports.getLsbD 0 = true → s.keys.keys[j].settings.reports.getLsbD 0 = true →
                  s.lp0.queue.length ≤ 4 → ∃ between : List Frame,
                    (s.lp0.queue ++ [keyReportFrame i (if t.keys.keys[i].state = .pressed then 0 else 1)
                        (s.keys.keys[i].state == .stuck) t.keys.keys[i] s.now] ++ between
                      ++ [keyReportFrame j (if t.keys.keys[j].state = .pressed then 0 else 1)
                        (s.keys.keys[j].state == .stuck) t.keys.keys[j] s.now]) <+: t.lp0.queue)
                ∧ (i = 1 → j = 4 → t.keys.keys[i].state = .pressed → t.keys.keys[j].state = .pressed →
                    s.inReset = false → s.lamps.output = .lit → s.panel.sending = none → s.panel.dirty = 0 →
                    0 < s.faults.cursor →
                    t.panel.sending = some ⟨panelItem 0 (t.setLamps { t.lamps with dim := s.lamps.dim }), s.clock⟩
                      ∧ t.panel.dirty.getLsbD 0 = true)
                ∧ (i = 1 → j = 2 → t.keys.keys[i].state = .pressed → t.keys.keys[j].state = .pressed →
                    t.faults.cursor = (if s.faults.cursor - 1 + 1 < s.faults.pages then s.faults.cursor - 1 + 1
                      else s.faults.cursor - 1)))
          ∧ unchangedExcept [.lp0, .lp1, .faults, .lamps, .meter, .chime, .panel, .keys] s t))
    ∧ (∀ (i : Fin 6) (s : State) (limit : Time), s.phase = .running → s.keys.keys[i].state = .pressed →
        s.keys.keys[i].stuckTimer = some limit → s.reached limit = true → answers (.stuckTimerExpiry i) s (fun t =>
          t.keys.keys[i] = { s.keys.keys[i] with state := .stuck, stuckTimer := none }
            ∧ (∀ j : Fin 6, j ≠ i → t.keys.keys[j] = s.keys.keys[j])
            ∧ t.keys = { s.keys with keys := t.keys.keys }
            ∧ (hasRoom s → faultActive t 1007 (160 + i.val))
            ∧ (s.keys.outputHeld = .lit → keyReported (keyReportFrame i 2 false s.keys.keys[i] s.now)
                s.keys.keys[i].settings.reports s t)
            ∧ (s.keys.outputHeld ≠ .lit → t.lp1 = s.lp1)
            ∧ unchangedExcept [.lp0, .lp1, .faults, .lamps, .chime, .panel, .keys] s t))

/-! ## Phases, supply and reset (chapter 10) -/

/-- A check of an order: the code of the reason, the item index, and whether it passes. -/
abbrev OrderCheck : Type := Nat × Nat × Bool

/-- The first check of an order that does not pass refuses it with its reason and item index, and nothing else changes. -/
def refusedAtFirst (k : OrderKind) (checks : Link → List Byte → List OrderCheck) : Prop :=
  ∀ (l : Link) (p : List Byte) (lines : Lines) (s : State) (before after : List OrderCheck) (reason item : Nat),
    received k l p s → checks l p = before ++ (reason, item, false) :: after → (∀ q ∈ before, q.2.2 = true) →
    answers (orderOf k l p lines) s (fun t =>
      repliedWith ⟨0x41, [k.code, BitVec.ofNat 8 reason, BitVec.ofNat 8 item, 0, 0]⟩ l s t
        ∧ unchangedExcept [.lp0, .lp1] s t)

/-- A field check: BAD FIELD with the field's item index. -/
def fieldCheck (item : Nat) (passes : Bool) : OrderCheck := (5, item, passes)

/-- The fields of an order are checked in their order, each with BAD FIELD. -/
def refusedAtFirstBadField (k : OrderKind) (fields : List Byte → List (Nat × Bool)) : Prop :=
  refusedAtFirst k (fun _ p => (fields p).map (fun q => fieldCheck q.1 q.2))

/-- A byte of a record lies in a range. -/
def byteIn (p : List Byte) (i lo hi : Nat) : Bool := decide (lo ≤ (byteAt p i).toNat) && decide ((byteAt p i).toNat ≤ hi)

/-- Two bytes of a record lie in a range. -/
def wordIn (p : List Byte) (i lo hi : Nat) : Bool := decide (lo ≤ (wordAt p i).toNat) && decide ((wordAt p i).toNat ≤ hi)

/-- The range a NUMBER definition's fallback is held to (R1, R158). -/
def rangeGiven (p : List Byte) : Int × Int :=
  if (byteAt p 20).toNat = 0 then (-32767, 32767) else ((wordAt p 21).toInt, (wordAt p 23).toInt)

/-- The positions of an ASPECT definition's group (R158). -/
def groupGiven (p : List Byte) : List Nat := (List.range (byteAt p 7).toNat).map (fun n => (byteAt p (8 + n)).toNat)

/-- Fields 6 to 10 of a DEFINE SLOT, by the kind in its second byte (R1). -/
def kindFields (p : List Byte) : List OrderCheck :=
  if byteAt p 1 = 1 then
    [fieldCheck 6 (wordAt p 5 == 0x8000
        || decide ((rangeGiven p).1 ≤ (wordAt p 5).toInt ∧ (wordAt p 5).toInt ≤ (rangeGiven p).2)),
     fieldCheck 7 (byteIn p 8 1 15 || byteAt p 8 == 0xff),
     fieldCheck 8 (byteIn p 20 0 1 && decide ((rangeGiven p).1 ≤ (rangeGiven p).2 ∧ -32767 ≤ (rangeGiven p).1)),
     fieldCheck 9 (byteIn p 25 0 3)]
  else if byteAt p 1 = 2 then
    [fieldCheck 6 (wordIn p 5 0 63),
     fieldCheck 7 (byteIn p 7 1 12 && (groupGiven p).all (fun n => n ≤ 23) && decide (groupGiven p).Nodup),
     fieldCheck 10 (byteIn p 26 0 1 && byteIn p 27 1 15)]
  else [fieldCheck 6 (wordIn p 5 0 6), fieldCheck 7 (byteIn p 8 0 23)]

/-- The fields of a DEFINE SLOT (R1): slot 0 is RESERVED SLOT, and kind NONE ends the checks. -/
def slotFields (p : List Byte) : List OrderCheck :=
  [(12, 1, byteAt p 0 != 0), fieldCheck 1 (byteIn p 0 0 63), fieldCheck 2 (byteIn p 1 0 3)]
    ++ if byteAt p 1 = 0 then []
      else [fieldCheck 3 (byteIn p 2 1 31), fieldCheck 4 (byteIn p 3 0 31),
          fieldCheck 5 (byteIn p 4 0 (if byteAt p 1 = 2 then 15 else 16))]
        ++ kindFields p ++ [fieldCheck 11 (byteIn p 28 0 1)]

/-- The fields of a DEFINE ASPECT (R33): REMOVE ends the checks; a setting's item index is 6 plus its number. -/
def aspectFields (p : List Byte) : List (Nat × Bool) :=
  [(1, byteIn p 0 0 4), (2, byteIn p 1 0 63), (3, byteIn p 2 0 1)]
    ++ if byteAt p 2 = 1 then []
      else [(4, byteIn p 3 0 15), (5, byteIn p 4 0 8)]
        ++ (List.range (byteAt p 4).toNat).map (fun n => (6 + n,
          byteIn p (5 + 3 * n) 0 23 && byteIn p (6 + 3 * n) 1 2 && byteIn p (7 + 3 * n) 0 3
            && decide (∀ m, m < n → byteAt p (5 + 3 * m) ≠ byteAt p (5 + 3 * n))))

/-- The lowest and highest code a DEFINE FAULT covers (R76). -/
def codesCovered (p : List Byte) : Nat × Nat :=
  let size := 2 ^ (byteAt p 2).toNat
  let base := (wordAt p 0).toNat - (wordAt p 0).toNat % size
  (base, base + size - 1)

/-- The fields of a DEFINE FAULT (R76): no entry reaches the codes 1011 to 1023, REMOVE ends the checks, a match lies
within its mask, and class C has no chime. -/
def faultFields (p : List Byte) : List (Nat × Bool) :=
  [(1, wordIn p 0 0 1023 && (byteAt p 2 != 0 || wordIn p 0 0 1010)),
   (2, byteIn p 2 0 7 && (byteAt p 2 == 0 || decide ((codesCovered p).2 ≤ 1010))), (3, byteIn p 3 0 1)]
    ++ if byteAt p 3 = 1 then []
      else [(4, byteIn p 4 0 2), (6, wordAt p 7 &&& wordAt p 5 == wordAt p 7),
        (7, byteIn p 9 0 3 && (byteAt p 4 != 2 || byteAt p 9 == 0)), (8, wordIn p 10 0 4095)]

/-- Every order with field checks is checked field by field in field order, against the ranges of its chapter (R1, R27,
R33, R41, R53, R54, R63, R72, R76, R82, R88, R92, R102, R104, R106, R110, R114, R121, R136, R145, R161); REFERENCE SPEED
by its source first. UPDATE and KEEP ALIVE are in UpdateRefusedAtFirstFailure and KeepAliveRearmsItsRefreshSlots. -/
def Obligations.OrdersRefusedAtFirstBadField : Prop :=
  refusedAtFirst .defineSlot (fun _ p => slotFields p)
    ∧ refusedAtFirstBadField .defineAspect aspectFields
    ∧ refusedAtFirstBadField .defineFault faultFields
    ∧ refusedAtFirst .referenceSpeed (fun l p =>
        [(6, 0, decide (sourceFits l (byteAt p 0).toNat)), fieldCheck 1 (wordIn p 1 0 4000),
         fieldCheck 2 (byteIn p 3 0 1)])
    ∧ refusedAtFirstBadField .setSpeedParameters (fun p =>
        [(1, [100, 150, 200, 250, 300, 400, 500].contains (wordAt p 0).toNat), (2, wordIn p 2 1000 5000),
         (3, byteIn p 4 5 50), (4, byteIn p 5 0 50), (5, byteIn p 6 0 20), (6, byteIn p 7 1 15), (7, byteIn p 8 1 10),
         (8, byteIn p 9 0 15), (9, byteIn p 10 0 1), (10, byteIn p 11 0 10), (11, wordIn p 12 800 1300),
         (12, wordIn p 14 20 400)])
    ∧ refusedAtFirstBadField .setLampChannel (fun p =>
        [(1, byteIn p 0 0 11), (2, byteIn p 1 0 1), (3, byteIn p 2 0 15), (4, byteIn p 3 0 63), (5, byteIn p 4 0 63),
         (6, wordIn p 5 0 1000), (7, wordIn p 7 ((wordAt p 5).toNat + 1) 1000), (8, byteIn p 9 0 63),
         (9, byteIn p 10 0 63), (10, wordIn p 11 0 1000), (11, wordIn p 13 ((wordAt p 11).toNat + 1) 1000)])
    ∧ refusedAtFirstBadField .setCadence (fun p => [(0, byteIn p 0 0 1), (1, byteIn p 1 0 15), (2, byteIn p 2 0 15)])
    ∧ refusedAtFirstBadField .setKey (fun p =>
        [(1, byteIn p 0 0 5), (2, byteIn p 1 2 32), (3, byteIn p 2 4 64), (4, wordIn p 3 20 1000),
         (5, wordIn p 5 10 1000 && decide ((wordAt p 5).toNat < (wordAt p 3).toNat)), (6, byteIn p 7 5 60),
         (7, byteIn p 8 1 3)])
    ∧ refusedAtFirstBadField .setLink (fun p =>
        [(1, byteIn p 0 0 1), (2, byteIn p 1 0 4), (3, byteIn p 2 0 2), (4, byteIn p 3 1 2), (5, byteIn p 4 2 20),
         (6, byteAt p 0 == 0 || byteIn p 5 0 1)])
    ∧ refusedAtFirstBadField .setGeneral (fun p =>
        [(2, byteIn p 1 0 15), (3, byteIn p 2 0 1), (4, byteIn p 3 0 1), (5, wordIn p 4 1000 4000), (6, byteIn p 6 1 4),
         (7, byteIn p 7 0 63), (8, byteIn p 8 0 100), (9, byteIn p 9 10 50), (10, byteIn p 10 0 23 || byteAt p 10 == 0xff),
         (11, byteAt p 10 == 0xff || byteIn p 11 1 2), (12, byteIn p 12 0 1), (13, byteIn p 13 1 30)])
    ∧ refusedAtFirstBadField .setWheel (fun p => [(1, wordIn p 0 800 1300), (2, wordIn p 2 20 400)])
    ∧ refusedAtFirstBadField .changeover (fun p =>
        [(0, byteIn p 0 1 4), (1, byteIn p 1 0 15 || byteAt p 1 == 0xff)])
    ∧ refusedAtFirstBadField .raiseFault (fun p => [(0, wordIn p 0 0 999), (1, byteIn p 2 0 63)])
    ∧ refusedAtFirstBadField .clearFault (fun p =>
        [(0, wordIn p 0 0 999 || wordAt p 0 == 0xffff), (1, byteIn p 2 0 63)])
    ∧ refusedAtFirstBadField .acknowledgeFault (fun p =>
        [(0, byteIn p 0 0 2), (1, byteAt p 0 != 0 || wordIn p 1 0 1010)])
    ∧ refusedAtFirstBadField .setDim (fun p => [(0, byteIn p 0 0 1)])
    ∧ refusedAtFirstBadField .lampTest (fun p => [(0, byteIn p 0 0 1)])
    ∧ refusedAtFirstBadField .lampReset (fun p => [(0, byteIn p 0 0 23)])
    ∧ refusedAtFirstBadField .clearSpeedFlags (fun p => (List.range p.length).map (fun i => (i, byteIn p i 1 10)))
    ∧ refusedAtFirstBadField .querySlot (fun p => [(0, byteIn p 0 0 63)])
    ∧ refusedAtFirstBadField .queryFaults (fun p => [(0, byteIn p 0 0 47), (1, byteIn p 1 1 4)])

/-- The positions a slot, or the band lamp as object 64, is bound to (R164, check 3). -/
def boundPositions (s : State) (object : Nat) : List Nat :=
  if h : object < 64 then
    match s.table[object].definition with
    | some d =>
      match d.body with
      | .aspect _ group _ _ => group
      | .state _ position => [position]
      | .number .. => []
    | none => []
  else (s.general.bandLamp.map (fun b => b.1.val)).toList

/-- A binding stands for a channel (R4). -/
def standsFor (s : State) (object channel : Nat) : Prop :=
  ∃ q ∈ boundPositions s object, channel = q ∨ (inBicolourPair s q ∧ channel / 2 = q / 2)

/-- Check 3 fails at a binding: it names the upper channel of a BICOLOUR pair or shares a channel with an earlier one. -/
def bindingFails (s : State) (object : Nat) : Prop :=
  (∃ q ∈ boundPositions s object, inBicolourPair s q ∧ q % 2 = 1)
    ∨ ∃ earlier channel : Nat, 1 ≤ earlier ∧ earlier < object ∧ standsFor s earlier channel
        ∧ standsFor s object channel

/-- The seven START checks at an object (R164); a check fails at the object when this holds. -/
def startCheckFails (s : State) (check object : Nat) : Prop :=
  (check = 1 ∧ object = 0 ∧ ¬ ∃ e ∈ s.aspects, e.system = 0 ∧ e.code = 0)
    ∨ (check = 2 ∧ ∃ (i : Fin 64) (d : SlotDef) (fallback : Nat) (group : List Nat) (attention : Bool) (count : Nat),
        i.val = object ∧ 1 ≤ object ∧ s.table[i].definition = some d
          ∧ d.body = .aspect fallback group attention count ∧ ¬ ∃ e ∈ s.aspects, e.system = 0 ∧ e.code = fallback)
    ∨ (check = 3 ∧ 1 ≤ object ∧ object ≤ 64 ∧ bindingFails s object)
    ∨ (check = 4 ∧ ∃ (i : Fin 64) (d : SlotDef) (fallback position : Nat),
        i.val = object ∧ 1 ≤ object ∧ s.table[i].definition = some d ∧ d.body = .state fallback position
          ∧ 4 ≤ fallback ∧ fallback ≤ 6 ∧ ¬ inBicolourPair s position)
    ∨ (check = 5 ∧ ∃ i : Fin 64, i.val = object ∧ s.general.permittedSlot = some i ∧ s.table[i].isNumber = false)
    ∨ (check = 6 ∧ object = s.general.initialSystem ∧ ¬ (1 ≤ object ∧ object ≤ 4))
    ∨ (check = 7 ∧ object ≤ 15 ∧ ∃ i j : Fin 64, i ≠ j
        ∧ s.table[i].panelField.map Prod.fst = some object ∧ s.table[j].panelField.map Prod.fst = some object)

/-- START is refused with CONFIG INVALID at the first check and object that fail, and then changes nothing (R164). -/
def Obligations.StartRefusedAtFirstFailingCheck : Prop :=
  ∀ (l : Link) (p : List Byte) (s : State) (check object : Nat), received .start l p s →
    s.general.initialSystem ≤ 255 → startCheckFails s check object →
    (∀ c o : Nat, startCheckFails s c o → check < c ∨ (check = c ∧ object ≤ o)) →
    answers (.start l p) s (fun t =>
      repliedWith ⟨0x41, [0x19, 17, 0, BitVec.ofNat 8 check, BitVec.ofNat 8 object]⟩ l s t
        ∧ unchangedExcept [.lp0] s t)

/-- The speed unit with its run state cleared (R75): settings with pending wheel parameters applied, sticky flags kept. -/
def speedCleared (s t : State) : Prop :=
  t.speed.settings = settingsAtEnd s ∧ t.speed.pendingWheel = none
    ∧ (∀ id : WheelId, ∃ pair, t.wheel id = { Wheel.cleared with lastPair := pair })
    ∧ t.speed.disagreement = ⟨.agree, 0, 0⟩ ∧ t.speed.referenceCheck = ⟨.agree, 0, 0⟩ ∧ t.speed.reference = none
    ∧ t.speed.selection = .none ∧ t.speed.displayed = none ∧ t.speed.holdCount = 0 ∧ t.speed.direction = .unknown
    ∧ t.speed.lowRun = 0 ∧ t.speed.windowCount = 0

/-- A key with its run state cleared and its settings kept (R143). -/
def keysCleared (s t : State) : Prop :=
  ∀ i : Fin 6, t.keys.keys[i] = ⟨s.keys.keys[i].settings, none, 0, 0, none, 0, .released, 0, none, none⟩

/-- A START whose checks pass makes the phase RUNNING and gives every block its START values: slots AWAITING and armed,
the initial system, the first window, an empty list without host flags, generators begun, LIT or DARK, keys to be
learned, link monitors begun, fault 1010 in DIP (R29, R38, R55, R103, R117, R123, R135, R143, R164, R168). -/
def Obligations.StartBeginsRunning : Prop :=
  ∀ (l : Link) (p : List Byte) (s : State), received .start l p s → tableSound s →
    (∀ check object : Nat, ¬ startCheckFails s check object) → s.speed.pendingWheel = none →
    answers (.start l p) s (fun t =>
      t.phase = .running ∧ t.changeover = ⟨s.general.initialSystem, none, false⟩ ∧ t.band = .unknown
        ∧ (∀ (i : Fin 64) (d : SlotDef), s.table[i].definition = some d →
            t.table[i] = ⟨some d, .awaiting, none, none, none, armedFor s d.deadline, 0, none, false,
              fallbackShown s d⟩)
        ∧ (∀ i : Fin 64, s.table[i].definition = none → t.table[i].definition = none)
        ∧ speedCleared s t ∧ t.speed.sticky = s.speed.sticky
        ∧ t.speed.wheelA.lastPair = some s.wheelPins.a ∧ t.speed.wheelB.lastPair = some s.wheelPins.b
        ∧ t.speed.windowEnd = some (s.now + BitVec.ofNat 32 s.speed.settings.windowLength)
        ∧ t.faults.conditions = s.faults.conditions &&& 0x2000 ∧ t.faults.catalogue = s.faults.catalogue
        ∧ t.faults.dropped = s.faults.dropped ∧ t.faults.moreFaults = false ∧ t.faults.cursor = 0
        ∧ (s.supply.state = .normal → t.faults.entries = [] ∧ t.supply = s.supply)
        ∧ (s.supply.state = .dip → faultActive t 1010 200 ∧ t.supply = { s.supply with raised := true })
        ∧ t.lamps.output = (if s.faults.conditions.getLsbD 13 = true ∨ s.lamps.supply = .dip then .dark else .lit)
        ∧ t.lamps.test = none ∧ t.lamps.dim = s.lamps.dim ∧ t.lamps.pairs = s.lamps.pairs
        ∧ (∀ g : Generator, t.generator g = { s.generator g with period := some ⟨s.clock,
            cadenceMs (s.generator g).onCode * 1000, cadenceMs (s.generator g).offCode * 1000⟩ })
        ∧ (∀ i : Fin 24, t.lamps.channels[i].condition = .normal)
        ∧ t.meter.duty = 0 ∧ t.meter.speedTarget = 0 ∧ t.meter.testFlag = false
        ∧ keysCleared s t ∧ t.keys.scanAt = some (plusUs s.clock 20000) ∧ t.keys.outputHeld = t.lamps.output
        ∧ (∀ m : Link, (t.port m).monitor = ⟨some (plusUs s.clock 1000000), 0, 0, false⟩)
        ∧ t.panel.refresh = some (plusUs s.clock 1000000)
        ∧ (s.lp0.queue.length < 7 → (s.lp0.queue ++ [⟨0x40, [0x19]⟩, outputFrame t 0 0]) <+: t.lp0.queue)
        ∧ unchangedExcept [.phase, .lp0, .lp1, .table, .band, .changeover, .speed, .faults, .lamps, .meter, .chime,
            .panel, .keys, .supply] s t)

/-- Every block has left RUNNING (R30, R38, R75, R79, R103, R123, R126, R131, R143, R153, R168); lapse counts, sticky
flags, the dropped count, the dim state and the port counters are said apart. -/
def leftRunning (s t : State) : Prop :=
  t.phase = .configuring ∧ t.changeover = ⟨s.changeover.active, none, false⟩ ∧ t.band = .unknown
    ∧ (∀ (i : Fin 64) (d : SlotDef), s.table[i].definition = some d →
        t.table[i].definition = some d ∧ t.table[i].state = .awaiting ∧ t.table[i].value = none
          ∧ t.table[i].lastSource = none ∧ t.table[i].lastUpdate = none ∧ t.table[i].monitor = .stopped
          ∧ t.table[i].rank = none ∧ t.table[i].degraded = false)
    ∧ (∀ i : Fin 64, s.table[i].definition = none → t.table[i].definition = none)
    ∧ speedCleared s t ∧ t.speed.windowEnd = none
    ∧ t.faults.catalogue = s.faults.catalogue ∧ t.faults.entries = [] ∧ t.faults.cursor = 0
    ∧ t.faults.moreFaults = false ∧ t.faults.demand = false ∧ t.faults.conditions = s.faults.conditions &&& 0x2fff
    ∧ t.lamps.output = .quiet ∧ t.lamps.test = none ∧ t.lamps.pairs = s.lamps.pairs
    ∧ (∀ g : Generator, t.generator g = { s.generator g with period := none })
    ∧ (∀ i : Fin 24, t.lamps.positions[i] = ⟨.off, none, .off⟩ ∧ t.lamps.channels[i] = ⟨.normal, none, none, none⟩)
    ∧ t.meter = ⟨0, false, 0, false⟩ ∧ t.chime = ⟨none, .none, false, false⟩
    ∧ keysCleared s t ∧ t.keys.scanAt = none ∧ t.keys.outputHeld = .quiet
    ∧ (∀ m : Link, (t.port m).monitor = ⟨none, 0, 0, false⟩ ∧ (t.port m).settings = (s.port m).settings)
    ∧ t.supply = { s.supply with raised := false } ∧ t.panel.refresh = some (plusUs s.clock 1000000)

/-- The pieces of State a change of phase may touch. -/
def phaseFields : List Field :=
  [.phase, .lp0, .lp1, .table, .band, .changeover, .speed, .faults, .lamps, .meter, .chime, .panel, .keys, .supply,
   .sleep]

/-- STOP leaves RUNNING with every record kept and a changeover's ABORTED report after the ACCEPT; RESTART, in either
phase, also empties the queues down to the frames in transmission and its ACCEPT and sets every record to 0 and the dim
state to DAY (R30, R50, R153, R165). -/
def Obligations.StopAndRestartLeaveRunning : Prop :=
  ∀ (l : Link) (p : List Byte) (s : State),
    (received .stop l p s → answers (.stop l p) s (fun t =>
        leftRunning s t ∧ (∀ i : Fin 64, t.table[i].lapses = s.table[i].lapses ∨ s.table[i].definition = none)
          ∧ t.speed.sticky = s.speed.sticky ∧ t.faults.dropped = s.faults.dropped ∧ t.lamps.dim = s.lamps.dim
          ∧ (∀ m : Link, (t.port m).counters = (s.port m).counters)
          ∧ (s.changeover.transit = none → t.lp0.queue = (s.lp0.enqueue s.clock ⟨0x40, [0x1A]⟩).queue)
          ∧ (∀ transit, s.changeover.transit = some transit →
              queuesOnLp0 [⟨0x40, [0x1A]⟩, changeoverFrame 4 transit.left s.changeover.active
                (s.now - transit.start) s.slotsInTransit.length 0 s.now] s t)
          ∧ t.lp1 = { s.lp1 with monitor := t.lp1.monitor }
          ∧ unchangedExcept phaseFields s t))
      ∧ (received .restart l p s → answers (.restart l p) s (fun t =>
          leftRunning s t ∧ (∀ i : Fin 64, t.table[i].lapses = 0)
            ∧ t.speed.sticky = 0 ∧ t.faults.dropped = 0 ∧ t.lamps.dim = .day
            ∧ (∀ m : Link, (t.port m).counters = ⟨0, 0, 0, 0, 0, 0⟩ ∧ (t.port m).reportLost = 0
                ∧ (t.port m).replyLost = 0)
            ∧ t.lp0.queue = s.lp0.queue.take 1 ++ [⟨0x40, [0x1B]⟩] ∧ t.lp1.queue = s.lp1.queue.take 1
            ∧ unchangedExcept phaseFields s t))

/-- The receive line of a link is low as SLEEP is taken: by the level it brings or by a break in progress. -/
def receiveLineLow (s : State) (lines : Lines) : Link → Prop
  | .lp0 => lines.lp0Low = true ∨ s.lp0.lineLow = true
  | .lp1 => s.lp1.settings.enabled = true ∧ (lines.lp1Low = true ∨ s.lp1.lineLow = true)

/-- SLEEP is refused with LINE ACTIVE and the link while a line is low, 0 when both are (R156); else it is accepted,
RUNNING is left, the lapse counts are 0, both receivers are held and LP1 keeps its frame in transmission alone (R166).
The levels coming with the command (log 5) and the refresh period that SLEEP from RUNNING begins (log 24, DEDUCED) are
the model's. -/
def Obligations.SleepWaitsForItsReply : Prop :=
  ∀ (l : Link) (p : List Byte) (lines : Lines) (s : State), received .sleep l p s →
    (receiveLineLow s lines .lp0 → answers (.sleep l p lines) s (fun t =>
        repliedWith ⟨0x41, [0x1C, 18, 0, 0, 0]⟩ l s t ∧ unchangedExcept [.lp0] s t))
      ∧ (¬ receiveLineLow s lines .lp0 → receiveLineLow s lines .lp1 → answers (.sleep l p lines) s (fun t =>
          repliedWith ⟨0x41, [0x1C, 18, 0, 0, 1]⟩ l s t ∧ unchangedExcept [.lp0] s t))
      ∧ (¬ receiveLineLow s lines .lp0 → ¬ receiveLineLow s lines .lp1 → s.lp0.queue.length < 8 →
          answers (.sleep l p lines) s (fun t =>
            t.phase = .configuring ∧ t.sleep.waiting = true
              ∧ t.lp0.queue = s.lp0.queue ++ [⟨0x40, [0x1C]⟩] ∧ t.lp1.queue = s.lp1.queue.take 1
              ∧ t.lp0.receiver = .hunting ∧ t.lp1.receiver = .hunting
              ∧ (∀ i : Fin 64, t.table[i].lapses = 0)
              ∧ t.speed.sticky = s.speed.sticky ∧ t.lamps.dim = s.lamps.dim ∧ t.faults.dropped = s.faults.dropped
              ∧ (∀ m : Link, (t.port m).counters = (s.port m).counters ∧ t.listening m = false)
              ∧ (s.phase = .running → leftRunning s t ∧ unchangedExcept phaseFields s t)
              ∧ (s.phase = .configuring →
                  (∀ i : Fin 64, t.table[i] = { s.table[i] with lapses := 0 })
                    ∧ unchangedExcept [.lp0, .lp1, .table, .sleep, .lamps, .panel] s t)))

/-- Every block at its full-reset values (R28, R32, R38, R75, R103, R123, R126, R131, R143, R145, R153, R163, R168). -/
def atFullReset (t : State) : Prop :=
  t.clock = 0 ∧ t.phase = .configuring ∧ t.supply.state = .normal ∧ t.supply.raised = false
    ∧ t.sleep.waiting = false ∧ t.general = ⟨1, 12, true, .retain, 2500, 2, none, 30, 20, none, false, 10⟩
    ∧ (∀ m : Link, (t.port m).settings = ⟨2, .even, 1, 5, true⟩ ∧ (t.port m).pendingSettings = none
        ∧ (t.port m).receiver.state = .hunt ∧ (t.port m).counters = ⟨0, 0, 0, 0, 0, 0⟩
        ∧ (t.port m).reportLost = 0 ∧ (t.port m).replyLost = 0 ∧ (t.port m).monitor = ⟨none, 0, 0, false⟩)
    ∧ (∀ i : Fin 64, i ≠ 0 → t.table[i] = ⟨none, .undefined, none, none, none, .stopped, 0, none, false, .nothing⟩)
    ∧ t.table[(0 : Fin 64)] = ⟨some ⟨0x20, 0, 16, .number none (some 0) (some (0, 4000)) 1, false⟩, .awaiting, none,
        none, none, .stopped, 0, none, false, .nothing⟩
    ∧ t.band = .unknown ∧ t.aspects = [] ∧ t.changeover = ⟨1, none, false⟩
    ∧ t.speed = { SpeedUnit.cleared with settings := ⟨200, 2000, 25, 20, 6, 3, 5, 7, .report, 0, 1100, 100⟩ }
    ∧ t.faults = ⟨[], [], 0, 0, false, 0, false⟩
    ∧ (∀ i : Fin 12, t.lamps.pairs[i] = ⟨.single, 5, ⟨63, 16, 20, 600⟩, ⟨63, 16, 20, 600⟩⟩)
    ∧ t.lamps.slowGenerator = ⟨10, 10, none⟩ ∧ t.lamps.fastGenerator = ⟨7, 7, none⟩
    ∧ (∀ i : Fin 24, t.lamps.positions[i] = ⟨.off, none, .off⟩ ∧ t.lamps.channels[i] = ⟨.normal, none, none, none⟩)
    ∧ t.lamps.dim = .day ∧ t.lamps.output = .quiet ∧ t.lamps.test = none
    ∧ t.meter = ⟨0, false, 0, false⟩ ∧ t.chime = ⟨none, .none, false, false⟩
    ∧ (∀ i : Fin 6, t.keys.keys[i] = ⟨⟨8, 16, 200, 120, 20, 1⟩, none, 0, 0, none, 0, .released, 0, none, none⟩)
    ∧ t.keys.scanAt = none ∧ t.keys.outputHeld = .quiet

/-- PHASE REPORT in CONFIGURING (R162): causes 0 RESET LINE, 1 SUPPLY LOW, 2 WAKE RETAIN, 3 WAKE RESET. -/
def phaseReportFrame (cause wakeLink : Nat) (now : Time) : Frame :=
  ⟨0x50, [0, BitVec.ofNat 8 cause, BitVec.ofNat 8 wakeLink] ++ b32 now⟩

/-- What a full reset that has ended leaves: the PHASE REPORT alone on LP0, the status item on the panel line, the other
items dirty and the refresh period begun (R135, R168). -/
def startedFromReset (cause wakeLink : Nat) (t : State) : Prop :=
  atFullReset t ∧ t.lp0.queue = [phaseReportFrame cause wakeLink 0] ∧ t.lp1.queue = []
    ∧ t.panel.dirty = 0x1ffffe ∧ t.panel.refresh = some 1000000
    ∧ t.panel.sending = some ⟨⟨0x60, [0, 1, 0, 2, 0, 0, 0, 0, 0, 0, 0]⟩, 0⟩

/-- A low line of an enabled link wakes the part now: 1 ms after the later of its fall, where the port saw it, and the entry
to DORMANT (R167). -/
abbrev mayWake (s : State) (l : Link) : Prop :=
  s.phase = .dormant ∧ s.sleep.dormantAt = none ∧ s.linkEnabled l = true ∧ (s.port l).wakesFrom = none

/-- The state right after reset, a full reset held, its end, and a wake in both modes (R162, R167, R168). The pins, the
free-value counter and the waiting commands are all that a full reset leaves alone, State.reset stands for power-on, and
the marks `notBefore` and `wokeAt` of a wake keep earlier bytes and the low period out (the model's choice, logs 6, 20,
21 and 23). The part wakes of itself from a line held low in a break, 1 ms after the later of its fall and the entry to
DORMANT, and WAKE is without effect before that or outside DORMANT (R167); how the fall is known is the model's choice
(log 38). -/
def Obligations.ResetsAndWakesSetEveryBlock : Prop :=
  startedFromReset 1 0 State.reset
    ∧ (∀ (cause : ResetCause) (s : State), answers (.fullReset cause) s (fun t =>
        atFullReset t ∧ t.inReset = true ∧ t.lp0.queue = [] ∧ t.lp1.queue = [] ∧ t.panel.sending = none
          ∧ (s.resets.lineAsserted = false → s.resets.supplyLow = false → t.resets.cause = cause)
          ∧ t.wheelPins = s.wheelPins ∧ t.deskDark.asserted = s.deskDark.asserted ∧ t.pending = s.pending))
    ∧ (∀ (cause : ResetCause) (s : State),
        s.resets.lineAsserted = decide (cause = .resetLine) → s.resets.supplyLow = decide (cause = .supplyLow) →
        answers (.resetRelease cause) s (fun t =>
          startedFromReset (if s.resets.cause = .resetLine then 0 else 1) 0 t ∧ t.inReset = false
            ∧ t.wheelPins = s.wheelPins ∧ t.pending = s.pending))
    ∧ (∀ (cause : ResetCause) (s : State), s.resets.lineAsserted = true → s.resets.supplyLow = true →
        answers (.resetRelease cause) s (fun t => t.inReset = true ∧ unchangedExcept [.resets] s t))
    ∧ (∀ (l : Link) (s : State), mayWake s l → s.inReset = false → s.general.wakeMode = .reset →
        answers (.wake l) s (fun t =>
          startedFromReset 3 (linkCode l) t ∧ (t.port l).wokeAt = some 0))
    ∧ (∀ (l : Link) (s : State), mayWake s l → (s.port l).lineLow = true → .wake l ∈ s.dueEvents)
    ∧ (∀ (l : Link) (s : State), ¬ mayWake s l → exec (.wake l) s = .next s)
    ∧ (∀ (l : Link) (s : State), mayWake s l → s.inReset = false → s.general.wakeMode = .retain →
        answers (.wake l) s (fun t =>
          t.phase = .configuring
            ∧ (∀ m : Link, (t.port m).receiver.state = .hunt ∧ (t.port m).settings = (s.port m).settings
                ∧ (t.port m).counters = ⟨0, 0, 0, 0, 0, 0⟩ ∧ (t.port m).notBefore = some s.clock
                ∧ (t.port m).replyLost = 0
                ∧ (m = .lp1 ∨ (s.port m).queue.length < 8 → (t.port m).reportLost = 0))
            ∧ (t.port l).wokeAt = some s.clock
            ∧ (∀ i : Fin 64, t.table[i] = { s.table[i] with lapses := 0 })
            ∧ t.speed = { s.speed with sticky := 0 } ∧ t.faults = { s.faults with dropped := 0 }
            ∧ t.lamps.dim = .day ∧ t.lamps.output = s.lamps.output ∧ t.lamps.pairs = s.lamps.pairs
            ∧ t.deskDark = ⟨s.deskDark.asserted, s.clock⟩
            ∧ t.panel.refresh = some (plusUs s.clock 1000000)
            ∧ repliesFirst (phaseReportFrame 2 (linkCode l) s.now) .lp0 s t
            ∧ unchangedExcept [.phase, .lp0, .lp1, .table, .speed, .faults, .lamps, .panel, .deskDark] s t))

/-- The bytes of SLOT DATA that hold the fields of the slot's kind, in the DEFINE SLOT layout (R158); the bytes of no field
of the kind are free (log 9). -/
def bodySent (p : List Byte) : SlotBody → Prop
  | .number fallback field range places =>
    byteAt p 1 = 1 ∧ wordAt p 5 = BitVec.ofInt 16 (fallback.getD (-32768)) ∧ byteAt p 8 = BitVec.ofNat 8 (field.getD 0xff)
      ∧ (p.drop 20).take 5 = (match range with
          | some r => 1 :: b16 (BitVec.ofInt 16 r.1) ++ b16 (BitVec.ofInt 16 r.2)
          | none => [0, 0, 0, 0, 0])
      ∧ byteAt p 25 = BitVec.ofNat 8 places
  | .aspect fallback group attention count =>
    byteAt p 1 = 2 ∧ wordAt p 5 = BitVec.ofNat 16 fallback ∧ byteAt p 7 = BitVec.ofNat 8 group.length
      ∧ (∀ n, n < group.length → byteAt p (8 + n) = BitVec.ofNat 8 (group.getD n 0))
      ∧ byteAt p 26 = (if attention then 1 else 0) ∧ byteAt p 27 = BitVec.ofNat 8 count
  | .state fallback position =>
    byteAt p 1 = 3 ∧ wordAt p 5 = BitVec.ofNat 16 fallback ∧ byteAt p 8 = BitVec.ofNat 8 position

/-- The payload of SLOT DATA: the 29 bytes of the definition, all 0 for an UNDEFINED slot, and then state, value, last
source, age, lapse count and DEGRADED (R27, section 9.6). -/
def slotDataSent (p : List Byte) (i : Fin 64) (x : Slot) (now : Time) : Prop :=
  (∀ d, x.definition = some d → byteAt p 0 = BitVec.ofNat 8 i.val ∧ byteAt p 2 = d.owner ∧ byteAt p 3 = d.refresh
      ∧ byteAt p 4 = BitVec.ofNat 8 d.deadline ∧ bodySent p d.body ∧ byteAt p 28 = (if d.lapseAlarm then 1 else 0))
    ∧ (x.definition = none → p.take 29 = List.replicate 29 0)
    ∧ p.drop 29 = [BitVec.ofNat 8 x.state.code]
        ++ (match x.value with
            | some v => 1 :: b16 v
            | none => [0, 0, 0])
        ++ (match x.lastSource with
            | some n => [1, BitVec.ofNat 8 n]
            | none => [0, 0])
        ++ (match x.lastUpdate with
            | some moment => 1 :: b32 (now - moment)
            | none => [0, 0, 0, 0, 0])
        ++ [BitVec.ofNat 8 x.lapses, if x.degraded then 1 else 0]
    ∧ p.length = 42

/-- One channel of SPEED DATA: speed, status and direction, each optional (R74). -/
def channelSent (w : Wheel) : List Byte :=
  (match w.speed with
    | some v => 1 :: n16 v
    | none => [0, 0, 0])
  ++ (match w.status with
    | some x => [1, BitVec.ofNat 8 x.code]
    | none => [0, 0])
  ++ (match w.direction with
    | some d => [1, BitVec.ofNat 8 d.code]
    | none => [0, 0])

/-- The payload of SPEED DATA (R74, section 9.6). That the fields of a record not held are 0 (log 18) and the sticky flags
the two-byte word of SPEED REPORT (log 36) is the model's choice. -/
def speedDataSent (s : State) : List Byte :=
  channelSent s.speed.wheelA ++ channelSent s.speed.wheelB
    ++ (match s.speed.displayed with
        | some v => 1 :: n16 v
        | none => [0, 0, 0])
    ++ [BitVec.ofNat 8 s.speed.selection.code, BitVec.ofNat 8 s.speed.direction.code,
      BitVec.ofNat 8 s.speed.disagreement.accord.code, BitVec.ofNat 8 s.speed.disagreement.mismatchRun,
      BitVec.ofNat 8 s.speed.disagreement.agreeRun, BitVec.ofNat 8 s.speed.referenceCheck.accord.code, referenceJudged s]
    ++ (match s.speed.reference with
        | some r => [BitVec.ofNat 8 r.source] ++ n16 r.speed ++ [if r.quality = .good then 0 else 1] ++ b32 r.arrival
        | none => List.replicate 8 0)
    ++ [if s.faults.conditions.getLsbD 12 then 1 else 0] ++ b16 s.speed.sticky
    ++ n16 s.speed.settings.wheelDiameter ++ n16 s.speed.settings.pulses
    ++ (match s.speed.pendingWheel with
        | some w => 1 :: n16 w.1 ++ n16 w.2
        | none => [0, 0, 0, 0, 0])

/-- Each query is answered with its data reply, field by field, and changes nothing else (R27, R74, R102, R152, section
9.6). What stands in the bytes the spec leaves open (logs 9 and 18) and the coding of the sticky flags in SPEED DATA (log
36) is the model's choice. -/
def Obligations.QueriesAnswerAndChangeNothing : Prop :=
  ∀ (l : Link) (p : List Byte) (s : State),
    (received .queryStatus l p s → answers (.queryStatus l p) s (fun t =>
        repliedWith ⟨0x42, [BitVec.ofNat 8 s.phase.code, BitVec.ofNat 8 s.changeover.active]
            ++ (if s.changeover.transit.isSome then [1, 1, BitVec.ofNat 8 s.changeover.active] else [0, 0, 0])
            ++ [BitVec.ofNat 8 s.lamps.output.code, BitVec.ofNat 8 s.lamps.dim.code,
              BitVec.ofNat 8 (testCode s.lamps.test), BitVec.ofNat 8 s.supply.state.code,
              BitVec.ofNat 8 s.band.code]
            ++ b16 s.faults.conditions
            ++ [BitVec.ofNat 8 s.faults.entries.length,
              BitVec.ofNat 8 (s.faults.entries.filter (fun e => e.visible)).length,
              BitVec.ofNat 8 (s.faults.entries.filter (fun e => e.state != .activeAcked)).length,
              BitVec.ofNat 8 s.faults.cursor]
            ++ b32 s.now⟩ l s t
          ∧ unchangedExcept [.lp0, .lp1] s t))
      ∧ (∀ i : Fin 64, received .querySlot l p s → (byteAt p 0).toNat = i.val → tableSound s →
          answers (.querySlot l p) s (fun t =>
            (∃ payload, slotDataSent payload i s.table[i] s.now ∧ repliedWith ⟨0x43, payload⟩ l s t)
              ∧ unchangedExcept [.lp0, .lp1, .fresh] s t))
      ∧ (received .queryFaults l p s → (byteAt p 0).toNat ≤ 47 → 1 ≤ (byteAt p 1).toNat → (byteAt p 1).toNat ≤ 4 →
          answers (.queryFaults l p) s (fun t =>
            repliedWith ⟨0x44, [BitVec.ofNat 8 (s.faults.entries.length + if s.faults.moreFaults then 128 else 0)]
                ++ n16 s.faults.dropped
                ++ ((s.faults.entries.drop (byteAt p 0).toNat).take (byteAt p 1).toNat).flatMap entryBytes⟩ l s t
              ∧ unchangedExcept [.lp0, .lp1] s t))
      ∧ (received .queryCounters l p s → answers (.queryCounters l p) s (fun t =>
          repliedWith ⟨0x45, [s.lp0, s.lp1].flatMap (fun port =>
              [port.counters.parity, port.counters.stop, port.counters.length, port.counters.check, port.counters.gap,
               port.counters.lineBreak, port.reportLost, port.replyLost].flatMap n16)⟩ l s t
            ∧ unchangedExcept [.lp0, .lp1] s t))
      ∧ (received .querySpeed l p s → answers (.querySpeed l p) s (fun t =>
          repliedWith ⟨0x46, speedDataSent s⟩ l s t ∧ unchangedExcept [.lp0, .lp1] s t))
end

