-- ==== Sys2Proof/Laws/State.lean ====
section
/-! SUPPORT. One lemma per field per named update of State, true by `rfl`, so that no proof unfolds a record update. -/

namespace Sys2Proof.Machine.State

section
variable (s : State) (x : Vector Slot 64)
@[simp] theorem setTable_clock : (s.setTable x).clock = s.clock := rfl
@[simp] theorem setTable_phase : (s.setTable x).phase = s.phase := rfl
@[simp] theorem setTable_supply : (s.setTable x).supply = s.supply := rfl
@[simp] theorem setTable_resets : (s.setTable x).resets = s.resets := rfl
@[simp] theorem setTable_sleep : (s.setTable x).sleep = s.sleep := rfl
@[simp] theorem setTable_general : (s.setTable x).general = s.general := rfl
@[simp] theorem setTable_lp0 : (s.setTable x).lp0 = s.lp0 := rfl
@[simp] theorem setTable_lp1 : (s.setTable x).lp1 = s.lp1 := rfl
@[simp] theorem setTable_table : (s.setTable x).table = x := rfl
@[simp] theorem setTable_band : (s.setTable x).band = s.band := rfl
@[simp] theorem setTable_aspects : (s.setTable x).aspects = s.aspects := rfl
@[simp] theorem setTable_changeover : (s.setTable x).changeover = s.changeover := rfl
@[simp] theorem setTable_speed : (s.setTable x).speed = s.speed := rfl
@[simp] theorem setTable_faults : (s.setTable x).faults = s.faults := rfl
@[simp] theorem setTable_lamps : (s.setTable x).lamps = s.lamps := rfl
@[simp] theorem setTable_meter : (s.setTable x).meter = s.meter := rfl
@[simp] theorem setTable_chime : (s.setTable x).chime = s.chime := rfl
@[simp] theorem setTable_panel : (s.setTable x).panel = s.panel := rfl
@[simp] theorem setTable_keys : (s.setTable x).keys = s.keys := rfl
@[simp] theorem setTable_deskDark : (s.setTable x).deskDark = s.deskDark := rfl
@[simp] theorem setTable_wheelPins : (s.setTable x).wheelPins = s.wheelPins := rfl
@[simp] theorem setTable_fresh : (s.setTable x).fresh = s.fresh := rfl
@[simp] theorem setTable_pending : (s.setTable x).pending = s.pending := rfl
end

section
variable (s : State) (x : BandState)
@[simp] theorem setBand_clock : (s.setBand x).clock = s.clock := rfl
@[simp] theorem setBand_phase : (s.setBand x).phase = s.phase := rfl
@[simp] theorem setBand_supply : (s.setBand x).supply = s.supply := rfl
@[simp] theorem setBand_resets : (s.setBand x).resets = s.resets := rfl
@[simp] theorem setBand_sleep : (s.setBand x).sleep = s.sleep := rfl
@[simp] theorem setBand_general : (s.setBand x).general = s.general := rfl
@[simp] theorem setBand_lp0 : (s.setBand x).lp0 = s.lp0 := rfl
@[simp] theorem setBand_lp1 : (s.setBand x).lp1 = s.lp1 := rfl
@[simp] theorem setBand_table : (s.setBand x).table = s.table := rfl
@[simp] theorem setBand_band : (s.setBand x).band = x := rfl
@[simp] theorem setBand_aspects : (s.setBand x).aspects = s.aspects := rfl
@[simp] theorem setBand_changeover : (s.setBand x).changeover = s.changeover := rfl
@[simp] theorem setBand_speed : (s.setBand x).speed = s.speed := rfl
@[simp] theorem setBand_faults : (s.setBand x).faults = s.faults := rfl
@[simp] theorem setBand_lamps : (s.setBand x).lamps = s.lamps := rfl
@[simp] theorem setBand_meter : (s.setBand x).meter = s.meter := rfl
@[simp] theorem setBand_chime : (s.setBand x).chime = s.chime := rfl
@[simp] theorem setBand_panel : (s.setBand x).panel = s.panel := rfl
@[simp] theorem setBand_keys : (s.setBand x).keys = s.keys := rfl
@[simp] theorem setBand_deskDark : (s.setBand x).deskDark = s.deskDark := rfl
@[simp] theorem setBand_wheelPins : (s.setBand x).wheelPins = s.wheelPins := rfl
@[simp] theorem setBand_fresh : (s.setBand x).fresh = s.fresh := rfl
@[simp] theorem setBand_pending : (s.setBand x).pending = s.pending := rfl
end

section
variable (s : State) (x : List AspectEntry)
@[simp] theorem setAspects_clock : (s.setAspects x).clock = s.clock := rfl
@[simp] theorem setAspects_phase : (s.setAspects x).phase = s.phase := rfl
@[simp] theorem setAspects_supply : (s.setAspects x).supply = s.supply := rfl
@[simp] theorem setAspects_resets : (s.setAspects x).resets = s.resets := rfl
@[simp] theorem setAspects_sleep : (s.setAspects x).sleep = s.sleep := rfl
@[simp] theorem setAspects_general : (s.setAspects x).general = s.general := rfl
@[simp] theorem setAspects_lp0 : (s.setAspects x).lp0 = s.lp0 := rfl
@[simp] theorem setAspects_lp1 : (s.setAspects x).lp1 = s.lp1 := rfl
@[simp] theorem setAspects_table : (s.setAspects x).table = s.table := rfl
@[simp] theorem setAspects_band : (s.setAspects x).band = s.band := rfl
@[simp] theorem setAspects_aspects : (s.setAspects x).aspects = x := rfl
@[simp] theorem setAspects_changeover : (s.setAspects x).changeover = s.changeover := rfl
@[simp] theorem setAspects_speed : (s.setAspects x).speed = s.speed := rfl
@[simp] theorem setAspects_faults : (s.setAspects x).faults = s.faults := rfl
@[simp] theorem setAspects_lamps : (s.setAspects x).lamps = s.lamps := rfl
@[simp] theorem setAspects_meter : (s.setAspects x).meter = s.meter := rfl
@[simp] theorem setAspects_chime : (s.setAspects x).chime = s.chime := rfl
@[simp] theorem setAspects_panel : (s.setAspects x).panel = s.panel := rfl
@[simp] theorem setAspects_keys : (s.setAspects x).keys = s.keys := rfl
@[simp] theorem setAspects_deskDark : (s.setAspects x).deskDark = s.deskDark := rfl
@[simp] theorem setAspects_wheelPins : (s.setAspects x).wheelPins = s.wheelPins := rfl
@[simp] theorem setAspects_fresh : (s.setAspects x).fresh = s.fresh := rfl
@[simp] theorem setAspects_pending : (s.setAspects x).pending = s.pending := rfl
end

section
variable (s : State) (x : Changeover)
@[simp] theorem setChangeover_clock : (s.setChangeover x).clock = s.clock := rfl
@[simp] theorem setChangeover_phase : (s.setChangeover x).phase = s.phase := rfl
@[simp] theorem setChangeover_supply : (s.setChangeover x).supply = s.supply := rfl
@[simp] theorem setChangeover_resets : (s.setChangeover x).resets = s.resets := rfl
@[simp] theorem setChangeover_sleep : (s.setChangeover x).sleep = s.sleep := rfl
@[simp] theorem setChangeover_general : (s.setChangeover x).general = s.general := rfl
@[simp] theorem setChangeover_lp0 : (s.setChangeover x).lp0 = s.lp0 := rfl
@[simp] theorem setChangeover_lp1 : (s.setChangeover x).lp1 = s.lp1 := rfl
@[simp] theorem setChangeover_table : (s.setChangeover x).table = s.table := rfl
@[simp] theorem setChangeover_band : (s.setChangeover x).band = s.band := rfl
@[simp] theorem setChangeover_aspects : (s.setChangeover x).aspects = s.aspects := rfl
@[simp] theorem setChangeover_changeover : (s.setChangeover x).changeover = x := rfl
@[simp] theorem setChangeover_speed : (s.setChangeover x).speed = s.speed := rfl
@[simp] theorem setChangeover_faults : (s.setChangeover x).faults = s.faults := rfl
@[simp] theorem setChangeover_lamps : (s.setChangeover x).lamps = s.lamps := rfl
@[simp] theorem setChangeover_meter : (s.setChangeover x).meter = s.meter := rfl
@[simp] theorem setChangeover_chime : (s.setChangeover x).chime = s.chime := rfl
@[simp] theorem setChangeover_panel : (s.setChangeover x).panel = s.panel := rfl
@[simp] theorem setChangeover_keys : (s.setChangeover x).keys = s.keys := rfl
@[simp] theorem setChangeover_deskDark : (s.setChangeover x).deskDark = s.deskDark := rfl
@[simp] theorem setChangeover_wheelPins : (s.setChangeover x).wheelPins = s.wheelPins := rfl
@[simp] theorem setChangeover_fresh : (s.setChangeover x).fresh = s.fresh := rfl
@[simp] theorem setChangeover_pending : (s.setChangeover x).pending = s.pending := rfl
end

section
variable (s : State) (x : SpeedUnit)
@[simp] theorem setSpeed_clock : (s.setSpeed x).clock = s.clock := rfl
@[simp] theorem setSpeed_phase : (s.setSpeed x).phase = s.phase := rfl
@[simp] theorem setSpeed_supply : (s.setSpeed x).supply = s.supply := rfl
@[simp] theorem setSpeed_resets : (s.setSpeed x).resets = s.resets := rfl
@[simp] theorem setSpeed_sleep : (s.setSpeed x).sleep = s.sleep := rfl
@[simp] theorem setSpeed_general : (s.setSpeed x).general = s.general := rfl
@[simp] theorem setSpeed_lp0 : (s.setSpeed x).lp0 = s.lp0 := rfl
@[simp] theorem setSpeed_lp1 : (s.setSpeed x).lp1 = s.lp1 := rfl
@[simp] theorem setSpeed_table : (s.setSpeed x).table = s.table := rfl
@[simp] theorem setSpeed_band : (s.setSpeed x).band = s.band := rfl
@[simp] theorem setSpeed_aspects : (s.setSpeed x).aspects = s.aspects := rfl
@[simp] theorem setSpeed_changeover : (s.setSpeed x).changeover = s.changeover := rfl
@[simp] theorem setSpeed_speed : (s.setSpeed x).speed = x := rfl
@[simp] theorem setSpeed_faults : (s.setSpeed x).faults = s.faults := rfl
@[simp] theorem setSpeed_lamps : (s.setSpeed x).lamps = s.lamps := rfl
@[simp] theorem setSpeed_meter : (s.setSpeed x).meter = s.meter := rfl
@[simp] theorem setSpeed_chime : (s.setSpeed x).chime = s.chime := rfl
@[simp] theorem setSpeed_panel : (s.setSpeed x).panel = s.panel := rfl
@[simp] theorem setSpeed_keys : (s.setSpeed x).keys = s.keys := rfl
@[simp] theorem setSpeed_deskDark : (s.setSpeed x).deskDark = s.deskDark := rfl
@[simp] theorem setSpeed_wheelPins : (s.setSpeed x).wheelPins = s.wheelPins := rfl
@[simp] theorem setSpeed_fresh : (s.setSpeed x).fresh = s.fresh := rfl
@[simp] theorem setSpeed_pending : (s.setSpeed x).pending = s.pending := rfl
end

section
variable (s : State) (x : FaultList)
@[simp] theorem setFaults_clock : (s.setFaults x).clock = s.clock := rfl
@[simp] theorem setFaults_phase : (s.setFaults x).phase = s.phase := rfl
@[simp] theorem setFaults_supply : (s.setFaults x).supply = s.supply := rfl
@[simp] theorem setFaults_resets : (s.setFaults x).resets = s.resets := rfl
@[simp] theorem setFaults_sleep : (s.setFaults x).sleep = s.sleep := rfl
@[simp] theorem setFaults_general : (s.setFaults x).general = s.general := rfl
@[simp] theorem setFaults_lp0 : (s.setFaults x).lp0 = s.lp0 := rfl
@[simp] theorem setFaults_lp1 : (s.setFaults x).lp1 = s.lp1 := rfl
@[simp] theorem setFaults_table : (s.setFaults x).table = s.table := rfl
@[simp] theorem setFaults_band : (s.setFaults x).band = s.band := rfl
@[simp] theorem setFaults_aspects : (s.setFaults x).aspects = s.aspects := rfl
@[simp] theorem setFaults_changeover : (s.setFaults x).changeover = s.changeover := rfl
@[simp] theorem setFaults_speed : (s.setFaults x).speed = s.speed := rfl
@[simp] theorem setFaults_faults : (s.setFaults x).faults = x := rfl
@[simp] theorem setFaults_lamps : (s.setFaults x).lamps = s.lamps := rfl
@[simp] theorem setFaults_meter : (s.setFaults x).meter = s.meter := rfl
@[simp] theorem setFaults_chime : (s.setFaults x).chime = s.chime := rfl
@[simp] theorem setFaults_panel : (s.setFaults x).panel = s.panel := rfl
@[simp] theorem setFaults_keys : (s.setFaults x).keys = s.keys := rfl
@[simp] theorem setFaults_deskDark : (s.setFaults x).deskDark = s.deskDark := rfl
@[simp] theorem setFaults_wheelPins : (s.setFaults x).wheelPins = s.wheelPins := rfl
@[simp] theorem setFaults_fresh : (s.setFaults x).fresh = s.fresh := rfl
@[simp] theorem setFaults_pending : (s.setFaults x).pending = s.pending := rfl
end

section
variable (s : State) (x : LampField)
@[simp] theorem setLamps_clock : (s.setLamps x).clock = s.clock := rfl
@[simp] theorem setLamps_phase : (s.setLamps x).phase = s.phase := rfl
@[simp] theorem setLamps_supply : (s.setLamps x).supply = s.supply := rfl
@[simp] theorem setLamps_resets : (s.setLamps x).resets = s.resets := rfl
@[simp] theorem setLamps_sleep : (s.setLamps x).sleep = s.sleep := rfl
@[simp] theorem setLamps_general : (s.setLamps x).general = s.general := rfl
@[simp] theorem setLamps_lp0 : (s.setLamps x).lp0 = s.lp0 := rfl
@[simp] theorem setLamps_lp1 : (s.setLamps x).lp1 = s.lp1 := rfl
@[simp] theorem setLamps_table : (s.setLamps x).table = s.table := rfl
@[simp] theorem setLamps_band : (s.setLamps x).band = s.band := rfl
@[simp] theorem setLamps_aspects : (s.setLamps x).aspects = s.aspects := rfl
@[simp] theorem setLamps_changeover : (s.setLamps x).changeover = s.changeover := rfl
@[simp] theorem setLamps_speed : (s.setLamps x).speed = s.speed := rfl
@[simp] theorem setLamps_faults : (s.setLamps x).faults = s.faults := rfl
@[simp] theorem setLamps_lamps : (s.setLamps x).lamps = x := rfl
@[simp] theorem setLamps_meter : (s.setLamps x).meter = s.meter := rfl
@[simp] theorem setLamps_chime : (s.setLamps x).chime = s.chime := rfl
@[simp] theorem setLamps_panel : (s.setLamps x).panel = s.panel := rfl
@[simp] theorem setLamps_keys : (s.setLamps x).keys = s.keys := rfl
@[simp] theorem setLamps_deskDark : (s.setLamps x).deskDark = s.deskDark := rfl
@[simp] theorem setLamps_wheelPins : (s.setLamps x).wheelPins = s.wheelPins := rfl
@[simp] theorem setLamps_fresh : (s.setLamps x).fresh = s.fresh := rfl
@[simp] theorem setLamps_pending : (s.setLamps x).pending = s.pending := rfl
end

section
variable (s : State) (x : Meter)
@[simp] theorem setMeter_clock : (s.setMeter x).clock = s.clock := rfl
@[simp] theorem setMeter_phase : (s.setMeter x).phase = s.phase := rfl
@[simp] theorem setMeter_supply : (s.setMeter x).supply = s.supply := rfl
@[simp] theorem setMeter_resets : (s.setMeter x).resets = s.resets := rfl
@[simp] theorem setMeter_sleep : (s.setMeter x).sleep = s.sleep := rfl
@[simp] theorem setMeter_general : (s.setMeter x).general = s.general := rfl
@[simp] theorem setMeter_lp0 : (s.setMeter x).lp0 = s.lp0 := rfl
@[simp] theorem setMeter_lp1 : (s.setMeter x).lp1 = s.lp1 := rfl
@[simp] theorem setMeter_table : (s.setMeter x).table = s.table := rfl
@[simp] theorem setMeter_band : (s.setMeter x).band = s.band := rfl
@[simp] theorem setMeter_aspects : (s.setMeter x).aspects = s.aspects := rfl
@[simp] theorem setMeter_changeover : (s.setMeter x).changeover = s.changeover := rfl
@[simp] theorem setMeter_speed : (s.setMeter x).speed = s.speed := rfl
@[simp] theorem setMeter_faults : (s.setMeter x).faults = s.faults := rfl
@[simp] theorem setMeter_lamps : (s.setMeter x).lamps = s.lamps := rfl
@[simp] theorem setMeter_meter : (s.setMeter x).meter = x := rfl
@[simp] theorem setMeter_chime : (s.setMeter x).chime = s.chime := rfl
@[simp] theorem setMeter_panel : (s.setMeter x).panel = s.panel := rfl
@[simp] theorem setMeter_keys : (s.setMeter x).keys = s.keys := rfl
@[simp] theorem setMeter_deskDark : (s.setMeter x).deskDark = s.deskDark := rfl
@[simp] theorem setMeter_wheelPins : (s.setMeter x).wheelPins = s.wheelPins := rfl
@[simp] theorem setMeter_fresh : (s.setMeter x).fresh = s.fresh := rfl
@[simp] theorem setMeter_pending : (s.setMeter x).pending = s.pending := rfl
end

section
variable (s : State) (x : Chime)
@[simp] theorem setChime_clock : (s.setChime x).clock = s.clock := rfl
@[simp] theorem setChime_phase : (s.setChime x).phase = s.phase := rfl
@[simp] theorem setChime_supply : (s.setChime x).supply = s.supply := rfl
@[simp] theorem setChime_resets : (s.setChime x).resets = s.resets := rfl
@[simp] theorem setChime_sleep : (s.setChime x).sleep = s.sleep := rfl
@[simp] theorem setChime_general : (s.setChime x).general = s.general := rfl
@[simp] theorem setChime_lp0 : (s.setChime x).lp0 = s.lp0 := rfl
@[simp] theorem setChime_lp1 : (s.setChime x).lp1 = s.lp1 := rfl
@[simp] theorem setChime_table : (s.setChime x).table = s.table := rfl
@[simp] theorem setChime_band : (s.setChime x).band = s.band := rfl
@[simp] theorem setChime_aspects : (s.setChime x).aspects = s.aspects := rfl
@[simp] theorem setChime_changeover : (s.setChime x).changeover = s.changeover := rfl
@[simp] theorem setChime_speed : (s.setChime x).speed = s.speed := rfl
@[simp] theorem setChime_faults : (s.setChime x).faults = s.faults := rfl
@[simp] theorem setChime_lamps : (s.setChime x).lamps = s.lamps := rfl
@[simp] theorem setChime_meter : (s.setChime x).meter = s.meter := rfl
@[simp] theorem setChime_chime : (s.setChime x).chime = x := rfl
@[simp] theorem setChime_panel : (s.setChime x).panel = s.panel := rfl
@[simp] theorem setChime_keys : (s.setChime x).keys = s.keys := rfl
@[simp] theorem setChime_deskDark : (s.setChime x).deskDark = s.deskDark := rfl
@[simp] theorem setChime_wheelPins : (s.setChime x).wheelPins = s.wheelPins := rfl
@[simp] theorem setChime_fresh : (s.setChime x).fresh = s.fresh := rfl
@[simp] theorem setChime_pending : (s.setChime x).pending = s.pending := rfl
end

section
variable (s : State) (x : Panel)
@[simp] theorem setPanel_clock : (s.setPanel x).clock = s.clock := rfl
@[simp] theorem setPanel_phase : (s.setPanel x).phase = s.phase := rfl
@[simp] theorem setPanel_supply : (s.setPanel x).supply = s.supply := rfl
@[simp] theorem setPanel_resets : (s.setPanel x).resets = s.resets := rfl
@[simp] theorem setPanel_sleep : (s.setPanel x).sleep = s.sleep := rfl
@[simp] theorem setPanel_general : (s.setPanel x).general = s.general := rfl
@[simp] theorem setPanel_lp0 : (s.setPanel x).lp0 = s.lp0 := rfl
@[simp] theorem setPanel_lp1 : (s.setPanel x).lp1 = s.lp1 := rfl
@[simp] theorem setPanel_table : (s.setPanel x).table = s.table := rfl
@[simp] theorem setPanel_band : (s.setPanel x).band = s.band := rfl
@[simp] theorem setPanel_aspects : (s.setPanel x).aspects = s.aspects := rfl
@[simp] theorem setPanel_changeover : (s.setPanel x).changeover = s.changeover := rfl
@[simp] theorem setPanel_speed : (s.setPanel x).speed = s.speed := rfl
@[simp] theorem setPanel_faults : (s.setPanel x).faults = s.faults := rfl
@[simp] theorem setPanel_lamps : (s.setPanel x).lamps = s.lamps := rfl
@[simp] theorem setPanel_meter : (s.setPanel x).meter = s.meter := rfl
@[simp] theorem setPanel_chime : (s.setPanel x).chime = s.chime := rfl
@[simp] theorem setPanel_panel : (s.setPanel x).panel = x := rfl
@[simp] theorem setPanel_keys : (s.setPanel x).keys = s.keys := rfl
@[simp] theorem setPanel_deskDark : (s.setPanel x).deskDark = s.deskDark := rfl
@[simp] theorem setPanel_wheelPins : (s.setPanel x).wheelPins = s.wheelPins := rfl
@[simp] theorem setPanel_fresh : (s.setPanel x).fresh = s.fresh := rfl
@[simp] theorem setPanel_pending : (s.setPanel x).pending = s.pending := rfl
end

section
variable (s : State) (x : KeyScanner)
@[simp] theorem setKeys_clock : (s.setKeys x).clock = s.clock := rfl
@[simp] theorem setKeys_phase : (s.setKeys x).phase = s.phase := rfl
@[simp] theorem setKeys_supply : (s.setKeys x).supply = s.supply := rfl
@[simp] theorem setKeys_resets : (s.setKeys x).resets = s.resets := rfl
@[simp] theorem setKeys_sleep : (s.setKeys x).sleep = s.sleep := rfl
@[simp] theorem setKeys_general : (s.setKeys x).general = s.general := rfl
@[simp] theorem setKeys_lp0 : (s.setKeys x).lp0 = s.lp0 := rfl
@[simp] theorem setKeys_lp1 : (s.setKeys x).lp1 = s.lp1 := rfl
@[simp] theorem setKeys_table : (s.setKeys x).table = s.table := rfl
@[simp] theorem setKeys_band : (s.setKeys x).band = s.band := rfl
@[simp] theorem setKeys_aspects : (s.setKeys x).aspects = s.aspects := rfl
@[simp] theorem setKeys_changeover : (s.setKeys x).changeover = s.changeover := rfl
@[simp] theorem setKeys_speed : (s.setKeys x).speed = s.speed := rfl
@[simp] theorem setKeys_faults : (s.setKeys x).faults = s.faults := rfl
@[simp] theorem setKeys_lamps : (s.setKeys x).lamps = s.lamps := rfl
@[simp] theorem setKeys_meter : (s.setKeys x).meter = s.meter := rfl
@[simp] theorem setKeys_chime : (s.setKeys x).chime = s.chime := rfl
@[simp] theorem setKeys_panel : (s.setKeys x).panel = s.panel := rfl
@[simp] theorem setKeys_keys : (s.setKeys x).keys = x := rfl
@[simp] theorem setKeys_deskDark : (s.setKeys x).deskDark = s.deskDark := rfl
@[simp] theorem setKeys_wheelPins : (s.setKeys x).wheelPins = s.wheelPins := rfl
@[simp] theorem setKeys_fresh : (s.setKeys x).fresh = s.fresh := rfl
@[simp] theorem setKeys_pending : (s.setKeys x).pending = s.pending := rfl
end

section
variable (s : State) (x : Phase)
@[simp] theorem setPhase_clock : (s.setPhase x).clock = s.clock := rfl
@[simp] theorem setPhase_phase : (s.setPhase x).phase = x := rfl
@[simp] theorem setPhase_supply : (s.setPhase x).supply = s.supply := rfl
@[simp] theorem setPhase_resets : (s.setPhase x).resets = s.resets := rfl
@[simp] theorem setPhase_sleep : (s.setPhase x).sleep = s.sleep := rfl
@[simp] theorem setPhase_general : (s.setPhase x).general = s.general := rfl
@[simp] theorem setPhase_lp0 : (s.setPhase x).lp0 = s.lp0 := rfl
@[simp] theorem setPhase_lp1 : (s.setPhase x).lp1 = s.lp1 := rfl
@[simp] theorem setPhase_table : (s.setPhase x).table = s.table := rfl
@[simp] theorem setPhase_band : (s.setPhase x).band = s.band := rfl
@[simp] theorem setPhase_aspects : (s.setPhase x).aspects = s.aspects := rfl
@[simp] theorem setPhase_changeover : (s.setPhase x).changeover = s.changeover := rfl
@[simp] theorem setPhase_speed : (s.setPhase x).speed = s.speed := rfl
@[simp] theorem setPhase_faults : (s.setPhase x).faults = s.faults := rfl
@[simp] theorem setPhase_lamps : (s.setPhase x).lamps = s.lamps := rfl
@[simp] theorem setPhase_meter : (s.setPhase x).meter = s.meter := rfl
@[simp] theorem setPhase_chime : (s.setPhase x).chime = s.chime := rfl
@[simp] theorem setPhase_panel : (s.setPhase x).panel = s.panel := rfl
@[simp] theorem setPhase_keys : (s.setPhase x).keys = s.keys := rfl
@[simp] theorem setPhase_deskDark : (s.setPhase x).deskDark = s.deskDark := rfl
@[simp] theorem setPhase_wheelPins : (s.setPhase x).wheelPins = s.wheelPins := rfl
@[simp] theorem setPhase_fresh : (s.setPhase x).fresh = s.fresh := rfl
@[simp] theorem setPhase_pending : (s.setPhase x).pending = s.pending := rfl
end

section
variable (s : State) (x : Supply)
@[simp] theorem setSupply_clock : (s.setSupply x).clock = s.clock := rfl
@[simp] theorem setSupply_phase : (s.setSupply x).phase = s.phase := rfl
@[simp] theorem setSupply_supply : (s.setSupply x).supply = x := rfl
@[simp] theorem setSupply_resets : (s.setSupply x).resets = s.resets := rfl
@[simp] theorem setSupply_sleep : (s.setSupply x).sleep = s.sleep := rfl
@[simp] theorem setSupply_general : (s.setSupply x).general = s.general := rfl
@[simp] theorem setSupply_lp0 : (s.setSupply x).lp0 = s.lp0 := rfl
@[simp] theorem setSupply_lp1 : (s.setSupply x).lp1 = s.lp1 := rfl
@[simp] theorem setSupply_table : (s.setSupply x).table = s.table := rfl
@[simp] theorem setSupply_band : (s.setSupply x).band = s.band := rfl
@[simp] theorem setSupply_aspects : (s.setSupply x).aspects = s.aspects := rfl
@[simp] theorem setSupply_changeover : (s.setSupply x).changeover = s.changeover := rfl
@[simp] theorem setSupply_speed : (s.setSupply x).speed = s.speed := rfl
@[simp] theorem setSupply_faults : (s.setSupply x).faults = s.faults := rfl
@[simp] theorem setSupply_lamps : (s.setSupply x).lamps = s.lamps := rfl
@[simp] theorem setSupply_meter : (s.setSupply x).meter = s.meter := rfl
@[simp] theorem setSupply_chime : (s.setSupply x).chime = s.chime := rfl
@[simp] theorem setSupply_panel : (s.setSupply x).panel = s.panel := rfl
@[simp] theorem setSupply_keys : (s.setSupply x).keys = s.keys := rfl
@[simp] theorem setSupply_deskDark : (s.setSupply x).deskDark = s.deskDark := rfl
@[simp] theorem setSupply_wheelPins : (s.setSupply x).wheelPins = s.wheelPins := rfl
@[simp] theorem setSupply_fresh : (s.setSupply x).fresh = s.fresh := rfl
@[simp] theorem setSupply_pending : (s.setSupply x).pending = s.pending := rfl
end

section
variable (s : State) (x : General)
@[simp] theorem setGeneral_clock : (s.setGeneral x).clock = s.clock := rfl
@[simp] theorem setGeneral_phase : (s.setGeneral x).phase = s.phase := rfl
@[simp] theorem setGeneral_supply : (s.setGeneral x).supply = s.supply := rfl
@[simp] theorem setGeneral_resets : (s.setGeneral x).resets = s.resets := rfl
@[simp] theorem setGeneral_sleep : (s.setGeneral x).sleep = s.sleep := rfl
@[simp] theorem setGeneral_general : (s.setGeneral x).general = x := rfl
@[simp] theorem setGeneral_lp0 : (s.setGeneral x).lp0 = s.lp0 := rfl
@[simp] theorem setGeneral_lp1 : (s.setGeneral x).lp1 = s.lp1 := rfl
@[simp] theorem setGeneral_table : (s.setGeneral x).table = s.table := rfl
@[simp] theorem setGeneral_band : (s.setGeneral x).band = s.band := rfl
@[simp] theorem setGeneral_aspects : (s.setGeneral x).aspects = s.aspects := rfl
@[simp] theorem setGeneral_changeover : (s.setGeneral x).changeover = s.changeover := rfl
@[simp] theorem setGeneral_speed : (s.setGeneral x).speed = s.speed := rfl
@[simp] theorem setGeneral_faults : (s.setGeneral x).faults = s.faults := rfl
@[simp] theorem setGeneral_lamps : (s.setGeneral x).lamps = s.lamps := rfl
@[simp] theorem setGeneral_meter : (s.setGeneral x).meter = s.meter := rfl
@[simp] theorem setGeneral_chime : (s.setGeneral x).chime = s.chime := rfl
@[simp] theorem setGeneral_panel : (s.setGeneral x).panel = s.panel := rfl
@[simp] theorem setGeneral_keys : (s.setGeneral x).keys = s.keys := rfl
@[simp] theorem setGeneral_deskDark : (s.setGeneral x).deskDark = s.deskDark := rfl
@[simp] theorem setGeneral_wheelPins : (s.setGeneral x).wheelPins = s.wheelPins := rfl
@[simp] theorem setGeneral_fresh : (s.setGeneral x).fresh = s.fresh := rfl
@[simp] theorem setGeneral_pending : (s.setGeneral x).pending = s.pending := rfl
end

section
variable (s : State) (x : SleepControl)
@[simp] theorem setSleep_clock : (s.setSleep x).clock = s.clock := rfl
@[simp] theorem setSleep_phase : (s.setSleep x).phase = s.phase := rfl
@[simp] theorem setSleep_supply : (s.setSleep x).supply = s.supply := rfl
@[simp] theorem setSleep_resets : (s.setSleep x).resets = s.resets := rfl
@[simp] theorem setSleep_sleep : (s.setSleep x).sleep = x := rfl
@[simp] theorem setSleep_general : (s.setSleep x).general = s.general := rfl
@[simp] theorem setSleep_lp0 : (s.setSleep x).lp0 = s.lp0 := rfl
@[simp] theorem setSleep_lp1 : (s.setSleep x).lp1 = s.lp1 := rfl
@[simp] theorem setSleep_table : (s.setSleep x).table = s.table := rfl
@[simp] theorem setSleep_band : (s.setSleep x).band = s.band := rfl
@[simp] theorem setSleep_aspects : (s.setSleep x).aspects = s.aspects := rfl
@[simp] theorem setSleep_changeover : (s.setSleep x).changeover = s.changeover := rfl
@[simp] theorem setSleep_speed : (s.setSleep x).speed = s.speed := rfl
@[simp] theorem setSleep_faults : (s.setSleep x).faults = s.faults := rfl
@[simp] theorem setSleep_lamps : (s.setSleep x).lamps = s.lamps := rfl
@[simp] theorem setSleep_meter : (s.setSleep x).meter = s.meter := rfl
@[simp] theorem setSleep_chime : (s.setSleep x).chime = s.chime := rfl
@[simp] theorem setSleep_panel : (s.setSleep x).panel = s.panel := rfl
@[simp] theorem setSleep_keys : (s.setSleep x).keys = s.keys := rfl
@[simp] theorem setSleep_deskDark : (s.setSleep x).deskDark = s.deskDark := rfl
@[simp] theorem setSleep_wheelPins : (s.setSleep x).wheelPins = s.wheelPins := rfl
@[simp] theorem setSleep_fresh : (s.setSleep x).fresh = s.fresh := rfl
@[simp] theorem setSleep_pending : (s.setSleep x).pending = s.pending := rfl
end

section
variable (s : State) (i : Fin 64) (x : Slot)
@[simp] theorem setSlot_clock : (s.setSlot i x).clock = s.clock := rfl
@[simp] theorem setSlot_phase : (s.setSlot i x).phase = s.phase := rfl
@[simp] theorem setSlot_supply : (s.setSlot i x).supply = s.supply := rfl
@[simp] theorem setSlot_resets : (s.setSlot i x).resets = s.resets := rfl
@[simp] theorem setSlot_sleep : (s.setSlot i x).sleep = s.sleep := rfl
@[simp] theorem setSlot_general : (s.setSlot i x).general = s.general := rfl
@[simp] theorem setSlot_lp0 : (s.setSlot i x).lp0 = s.lp0 := rfl
@[simp] theorem setSlot_lp1 : (s.setSlot i x).lp1 = s.lp1 := rfl
@[simp] theorem setSlot_table : (s.setSlot i x).table = s.table.set i x := rfl
@[simp] theorem setSlot_band : (s.setSlot i x).band = s.band := rfl
@[simp] theorem setSlot_aspects : (s.setSlot i x).aspects = s.aspects := rfl
@[simp] theorem setSlot_changeover : (s.setSlot i x).changeover = s.changeover := rfl
@[simp] theorem setSlot_speed : (s.setSlot i x).speed = s.speed := rfl
@[simp] theorem setSlot_faults : (s.setSlot i x).faults = s.faults := rfl
@[simp] theorem setSlot_lamps : (s.setSlot i x).lamps = s.lamps := rfl
@[simp] theorem setSlot_meter : (s.setSlot i x).meter = s.meter := rfl
@[simp] theorem setSlot_chime : (s.setSlot i x).chime = s.chime := rfl
@[simp] theorem setSlot_panel : (s.setSlot i x).panel = s.panel := rfl
@[simp] theorem setSlot_keys : (s.setSlot i x).keys = s.keys := rfl
@[simp] theorem setSlot_deskDark : (s.setSlot i x).deskDark = s.deskDark := rfl
@[simp] theorem setSlot_wheelPins : (s.setSlot i x).wheelPins = s.wheelPins := rfl
@[simp] theorem setSlot_fresh : (s.setSlot i x).fresh = s.fresh := rfl
@[simp] theorem setSlot_pending : (s.setSlot i x).pending = s.pending := rfl
end

section
variable (s : State) (l : Link) (p : Port)
@[simp] theorem setPort_clock : (s.setPort l p).clock = s.clock := by cases l <;> rfl
@[simp] theorem setPort_phase : (s.setPort l p).phase = s.phase := by cases l <;> rfl
@[simp] theorem setPort_supply : (s.setPort l p).supply = s.supply := by cases l <;> rfl
@[simp] theorem setPort_resets : (s.setPort l p).resets = s.resets := by cases l <;> rfl
@[simp] theorem setPort_sleep : (s.setPort l p).sleep = s.sleep := by cases l <;> rfl
@[simp] theorem setPort_general : (s.setPort l p).general = s.general := by cases l <;> rfl
@[simp] theorem setPort_table : (s.setPort l p).table = s.table := by cases l <;> rfl
@[simp] theorem setPort_band : (s.setPort l p).band = s.band := by cases l <;> rfl
@[simp] theorem setPort_aspects : (s.setPort l p).aspects = s.aspects := by cases l <;> rfl
@[simp] theorem setPort_changeover : (s.setPort l p).changeover = s.changeover := by cases l <;> rfl
@[simp] theorem setPort_speed : (s.setPort l p).speed = s.speed := by cases l <;> rfl
@[simp] theorem setPort_faults : (s.setPort l p).faults = s.faults := by cases l <;> rfl
@[simp] theorem setPort_lamps : (s.setPort l p).lamps = s.lamps := by cases l <;> rfl
@[simp] theorem setPort_meter : (s.setPort l p).meter = s.meter := by cases l <;> rfl
@[simp] theorem setPort_chime : (s.setPort l p).chime = s.chime := by cases l <;> rfl
@[simp] theorem setPort_panel : (s.setPort l p).panel = s.panel := by cases l <;> rfl
@[simp] theorem setPort_keys : (s.setPort l p).keys = s.keys := by cases l <;> rfl
@[simp] theorem setPort_deskDark : (s.setPort l p).deskDark = s.deskDark := by cases l <;> rfl
@[simp] theorem setPort_wheelPins : (s.setPort l p).wheelPins = s.wheelPins := by cases l <;> rfl
@[simp] theorem setPort_fresh : (s.setPort l p).fresh = s.fresh := by cases l <;> rfl
@[simp] theorem setPort_pending : (s.setPort l p).pending = s.pending := by cases l <;> rfl
@[simp] theorem setPort_lp0_lp0 : (s.setPort .lp0 p).lp0 = p := rfl
@[simp] theorem setPort_lp0_lp1 : (s.setPort .lp0 p).lp1 = s.lp1 := rfl
@[simp] theorem setPort_lp1_lp0 : (s.setPort .lp1 p).lp0 = s.lp0 := rfl
@[simp] theorem setPort_lp1_lp1 : (s.setPort .lp1 p).lp1 = p := rfl
@[simp] theorem port_lp0 : s.port .lp0 = s.lp0 := rfl
@[simp] theorem port_lp1 : s.port .lp1 = s.lp1 := rfl
@[simp] theorem port_setPort_self : (s.setPort l p).port l = p := by cases l <;> rfl
end

theorem port_setPort_other (s : State) {l m : Link} (p : Port) (h : m ≠ l) : (s.setPort l p).port m = s.port m := by
  cases l <;> cases m <;> first | rfl | exact absurd rfl h

/-- A second setting of a port replaces the first. -/
@[simp] theorem setPort_setPort (s : State) (l : Link) (p q : Port) : (s.setPort l p).setPort l q = s.setPort l q := by
  cases l <;> rfl

/-- Setting a port to what it is changes nothing. -/
@[simp] theorem setPort_port (s : State) (l : Link) : s.setPort l (s.port l) = s := by cases l <;> rfl

theorem wheel_a (s : State) : s.wheel .a = s.speed.wheelA := rfl
theorem wheel_b (s : State) : s.wheel .b = s.speed.wheelB := rfl
theorem generator_slow (s : State) : s.generator .slow = s.lamps.slowGenerator := rfl
theorem generator_fast (s : State) : s.generator .fast = s.lamps.fastGenerator := rfl

end Sys2Proof.Machine.State

namespace Sys2Proof.Machine

/-- One element of a mapped register file. -/
@[simp] theorem mapVec_getElem {α β : Type} {n : Nat} (f : α → β) (v : Vector α n) (i : Nat) (h : i < n) :
    (mapVec f v)[i] = f v[i] := by
  simp [mapVec]

/-- The changed element of a register file. -/
@[simp] theorem modVec_getElem_self {α : Type} {n : Nat} (v : Vector α n) (i : Fin n) (f : α → α) :
    (modVec v i f)[i] = f v[i] := by
  simp [modVec]

/-- Every other element stands. -/
theorem modVec_getElem_other {α : Type} {n : Nat} (v : Vector α n) (i j : Fin n) (f : α → α) (h : j ≠ i) :
    (modVec v i f)[j] = v[j] := by
  have : i.val ≠ j.val := fun e => h (Fin.ext e.symm)
  simp [modVec, this]

/-- A slot set is the slot read. -/
@[simp] theorem setSlot_table_self (s : State) (i : Fin 64) (x : Slot) : (s.setSlot i x).table[i] = x := by
  simp

/-- Every other slot stands. -/
theorem setSlot_table_other (s : State) (i j : Fin 64) (x : Slot) (h : j ≠ i) :
    (s.setSlot i x).table[j] = s.table[j] := by
  have : i.val ≠ j.val := fun e => h (Fin.ext e.symm)
  simp [this]

end Sys2Proof.Machine
end

