-- ==== Sys2Proof/Laws/Frames.lean ====
section
/-! SUPPORT. What each shared operation can touch: `Touches fs op` says that op leaves every field of State outside fs as
it was. One lemma per operation, cited in place of unfolding it. -/

namespace Sys2Proof.Laws

open Sys2Proof.Machine Sys2Proof.Safety

/-! ## Frames compose -/

/-- An operation changes nothing outside a list of fields. -/
def Touches (fs : List Field) (op : State → State) : Prop := ∀ s, unchangedExcept fs s (op s)

theorem unchangedExcept_refl (fs : List Field) (s : State) : unchangedExcept fs s s := by
  intro f _
  cases f <;> rfl

theorem unchangedExcept_trans {fs : List Field} {s t u : State} (h : unchangedExcept fs s t)
    (k : unchangedExcept fs t u) : unchangedExcept fs s u := by
  intro f hf
  have a := h f hf
  have b := k f hf
  cases f <;> simp only [agreeOn] at a b ⊢ <;> rw [b, a]

theorem unchangedExcept_mono {fs gs : List Field} {s t : State} (h : unchangedExcept fs s t) (sub : fs ⊆ gs) :
    unchangedExcept gs s t := fun f hf => h f (fun m => hf (sub m))

theorem Touches.mono {fs gs : List Field} {op : State → State} (h : Touches fs op) (sub : fs ⊆ gs) : Touches gs op :=
  fun s => unchangedExcept_mono (h s) sub

theorem Touches.id (fs : List Field) : Touches fs (fun s => s) := fun s => unchangedExcept_refl fs s

theorem Touches.comp {fs : List Field} {f g : State → State} (hf : Touches fs f) (hg : Touches fs g) :
    Touches fs (fun s => f (g s)) := fun s => unchangedExcept_trans (hg s) (hf (g s))

theorem Touches.foldl {α : Type} {fs : List Field} {op : State → α → State} (h : ∀ a, Touches fs (fun s => op s a))
    (l : List α) : Touches fs (fun s => l.foldl op s) := by
  intro s
  induction l generalizing s with
  | nil => exact unchangedExcept_refl fs s
  | cons a rest ih => exact unchangedExcept_trans (h a s) (ih (op s a))

theorem touches_setTable (x : Vector Slot 64) : Touches [.table] (fun s => s.setTable x) := by
  intro s f hf; cases f <;> first | rfl | simp at hf
theorem unchanged_setTable (s : State) (x : Vector Slot 64) : unchangedExcept [.table] s (s.setTable x) :=
  touches_setTable x s
theorem unchanged_setSlot (s : State) (i : Fin 64) (x : Slot) : unchangedExcept [.table] s (s.setSlot i x) := by
  intro f hf; cases f <;> first | rfl | simp at hf
theorem unchanged_setBand (s : State) (x : BandState) : unchangedExcept [.band] s (s.setBand x) := by
  intro f hf; cases f <;> first | rfl | simp at hf
theorem unchanged_setAspects (s : State) (x : List AspectEntry) : unchangedExcept [.aspects] s (s.setAspects x) := by
  intro f hf; cases f <;> first | rfl | simp at hf
theorem unchanged_setChangeover (s : State) (x : Changeover) : unchangedExcept [.changeover] s (s.setChangeover x) := by
  intro f hf; cases f <;> first | rfl | simp at hf
theorem unchanged_setSpeed (s : State) (x : SpeedUnit) : unchangedExcept [.speed] s (s.setSpeed x) := by
  intro f hf; cases f <;> first | rfl | simp at hf
theorem unchanged_setFaults (s : State) (x : FaultList) : unchangedExcept [.faults] s (s.setFaults x) := by
  intro f hf; cases f <;> first | rfl | simp at hf
theorem unchanged_setLamps (s : State) (x : LampField) : unchangedExcept [.lamps] s (s.setLamps x) := by
  intro f hf; cases f <;> first | rfl | simp at hf
theorem unchanged_setMeter (s : State) (x : Meter) : unchangedExcept [.meter] s (s.setMeter x) := by
  intro f hf; cases f <;> first | rfl | simp at hf
theorem unchanged_setChime (s : State) (x : Chime) : unchangedExcept [.chime] s (s.setChime x) := by
  intro f hf; cases f <;> first | rfl | simp at hf
theorem unchanged_setPanel (s : State) (x : Panel) : unchangedExcept [.panel] s (s.setPanel x) := by
  intro f hf; cases f <;> first | rfl | simp at hf
theorem unchanged_setKeys (s : State) (x : KeyScanner) : unchangedExcept [.keys] s (s.setKeys x) := by
  intro f hf; cases f <;> first | rfl | simp at hf
theorem unchanged_setPort (s : State) (l : Link) (x : Port) : unchangedExcept [.lp0, .lp1] s (s.setPort l x) := by
  intro f hf; cases l <;> cases f <;> first | rfl | simp at hf
theorem unchanged_setSupply (s : State) (x : Supply) : unchangedExcept [.supply] s (s.setSupply x) := by
  intro f hf; cases f <;> first | rfl | simp at hf

/-! ## Panel marks and the transmit queues -/

theorem touches_markItem (n : Nat) : Touches [.panel] (markItem n) := fun s => unchanged_setPanel s _
theorem touches_markStatus : Touches [.panel] markStatus := touches_markItem 0
theorem touches_markLines : Touches [.panel] markLines :=
  (touches_markItem 17).comp ((touches_markItem 18).comp ((touches_markItem 19).comp (touches_markItem 20)))
theorem touches_markAll : Touches [.panel] markAll := fun s => unchanged_setPanel s _

theorem touches_queueFrame (l : Link) (f : Frame) : Touches [.lp0, .lp1] (queueFrame l f) := by
  intro s
  unfold queueFrame
  split
  · exact unchanged_setPort s l _
  · exact unchangedExcept_refl _ s

theorem touches_report (f : Frame) : Touches [.lp0] (report f) := by
  intro s g hg
  cases g <;> first | rfl | simp at hg

theorem touches_accept (k : OrderKind) (l : Link) : Touches [.lp0, .lp1] (accept k l) := touches_queueFrame l _
theorem touches_refuse (k : OrderKind) (l : Link) (r : Reason) (item : Nat) : Touches [.lp0, .lp1] (refuse k l r item) :=
  touches_queueFrame l _

/-- Checks in front of an effect add the ports alone. -/
theorem touches_checked {fs : List Field} (ports : [Field.lp0, .lp1] ⊆ fs) (k : OrderKind) (l : Link)
    (checks : List Check) {effect : State → State} (h : Touches fs effect) : Touches fs (checked k l checks effect) := by
  intro s
  unfold checked
  split
  · exact unchangedExcept_mono (touches_refuse k l _ _ s) ports
  · exact h s

theorem touches_frameHeard (l : Link) : Touches [.lp0, .lp1] (frameHeard l) := fun s => unchanged_setPort s l _

/-- The hand-over adds the ports alone. -/
theorem touches_takeOrder {fs : List Field} (ports : [Field.lp0, .lp1] ⊆ fs) (k : OrderKind) (l : Link) (p : List Byte)
    {owner : State → State} (h : Touches fs owner) : Touches fs (takeOrder k l p owner) := by
  intro s
  unfold takeOrder handTo
  split
  · have heard := unchangedExcept_mono (touches_frameHeard l s) ports
    split
    · exact unchangedExcept_trans heard (unchangedExcept_mono (touches_refuse k l _ _ _) ports)
    · exact unchangedExcept_trans heard (h _)
  · exact unchangedExcept_refl _ s

/-! ## Chime and meter -/

theorem touches_sound (p : ChimePattern) : Touches [.chime] (sound p) := fun s => unchanged_setChime s _

theorem touches_compete (p : ChimePattern) : Touches [.chime] (compete p) := by
  intro s
  unfold compete
  split
  · exact unchanged_setChime s _
  · exact unchangedExcept_refl _ s

theorem touches_soundPending : Touches [.chime] soundPending := by
  intro s
  unfold soundPending
  split <;> exact unchanged_setChime s _

theorem touches_endPattern : Touches [.chime] endPattern := fun s =>
  unchangedExcept_trans (touches_soundPending s) (unchanged_setChime _ _)

theorem touches_effectChimePatternEnd : Touches [.chime] effectChimePatternEnd := by
  intro s
  unfold effectChimePatternEnd
  split
  · exact touches_endPattern s
  · exact unchangedExcept_refl _ s

theorem touches_takeOneShot (p : ChimePattern) : Touches [.chime] (takeOneShot p) := by
  intro s
  unfold takeOneShot
  split
  · exact touches_sound p s
  · split
    · exact touches_sound p s
    · split
      · exact unchangedExcept_refl _ s
      · exact touches_compete p s

theorem touches_requestOneShot (p : ChimePattern) : Touches [.chime] (requestOneShot p) := by
  intro s
  unfold requestOneShot
  split
  · exact unchangedExcept_trans (touches_effectChimePatternEnd s) (touches_takeOneShot p _)
  · exact unchangedExcept_refl _ s

theorem touches_requestContinuous : Touches [.chime] requestContinuous := by
  intro s
  unfold requestContinuous
  split
  · exact unchangedExcept_refl _ s
  · split
    · exact unchangedExcept_trans (unchanged_setChime s _) (touches_sound _ _)
    · exact unchanged_setChime s _

theorem touches_requestEntryChime (p : ChimePattern) : Touches [.chime] (requestEntryChime p) := by
  intro s
  cases p
  · exact unchangedExcept_refl _ s
  · exact touches_requestOneShot _ s
  · exact touches_requestOneShot _ s
  · exact unchangedExcept_refl _ s

theorem touches_withdrawContinuous : Touches [.chime] withdrawContinuous := by
  intro s
  unfold withdrawContinuous
  split
  · split
    · exact unchangedExcept_trans (unchanged_setChime s _) (touches_soundPending _)
    · exact unchanged_setChime s _
  · exact unchangedExcept_refl _ s

theorem touches_chimeLeavesLit : Touches [.chime] chimeLeavesLit := fun s => unchanged_setChime s _

theorem touches_chimeEntersLit : Touches [.chime] chimeEntersLit := by
  intro s
  unfold chimeEntersLit
  split
  · exact touches_sound _ s
  · exact unchangedExcept_refl _ s

theorem touches_redirectMeter : Touches [.meter] redirectMeter := by
  intro s
  unfold redirectMeter
  split <;> exact unchanged_setMeter s _

theorem touches_presentToMeter (speed : Option Nat) : Touches [.meter] (presentToMeter speed) :=
  fun s => unchangedExcept_trans (unchanged_setMeter s _) (touches_redirectMeter _)

theorem touches_setMeterTest (b : Bool) : Touches [.meter] (setMeterTest b) :=
  fun s => unchangedExcept_trans (unchanged_setMeter s _) (touches_redirectMeter _)

theorem touches_tickMeter : Touches [.meter] tickMeter := by
  intro s
  unfold tickMeter
  split
  · exact unchanged_setMeter s _
  · exact unchangedExcept_refl _ s

/-! ## The fault list -/

theorem touches_faultReport (event : FaultEvent) (agent : Agent) (e : Entry) :
    Touches [.lp0] (faultReport event agent e) := fun s => touches_report _ s

theorem touches_evaluateDemand : Touches [.faults, .chime] evaluateDemand := by
  intro s
  unfold evaluateDemand
  simp only []
  split
  · exact unchangedExcept_refl _ s
  · split
    · exact unchangedExcept_trans (unchangedExcept_mono (unchanged_setFaults s _) (by decide))
        (touches_requestContinuous.mono (by decide) _)
    · exact unchangedExcept_trans (unchangedExcept_mono (unchanged_setFaults s _) (by decide))
        (touches_withdrawContinuous.mono (by decide) _)

theorem touches_markListChanges (before : FaultList) : Touches [.panel] (markListChanges before) := by
  intro s
  have hlined : unchangedExcept [.panel] s (if s.faults.lines = before.lines then s else markLines s) := by
    split
    · exact unchangedExcept_refl _ s
    · exact touches_markLines s
  unfold markListChanges
  simp only []
  split
  · exact hlined
  · exact unchangedExcept_trans hlined (touches_markStatus _)

/-- An event of the list adds list, chime and panel to what its change touches. -/
theorem touches_listEvent {fs : List Field} (sub : [Field.faults, .chime, .panel] ⊆ fs) {change : State → State}
    (h : Touches fs change) : Touches fs (listEvent change) := by
  intro s
  have h1 := unchangedExcept_trans (h s) (touches_evaluateDemand.mono (fun f hf => sub (by
    simp only [List.mem_cons, List.not_mem_nil, or_false] at hf ⊢; tauto)) (change s))
  have h2 := unchangedExcept_trans h1 (unchangedExcept_mono (unchanged_setFaults _ (evaluateDemand (change s)).faults.clamped)
    (fun f hf => sub (by simp only [List.mem_cons, List.not_mem_nil, or_false] at hf ⊢; tauto)))
  exact unchangedExcept_trans h2 ((touches_markListChanges s.faults).mono
    (fun f hf => sub (by simp only [List.mem_cons, List.not_mem_nil, or_false] at hf ⊢; tauto)) _)

theorem touches_announce (e : Entry) : Touches [.faults, .chime] (announce e) := by
  intro s
  unfold announce
  split
  · have h := (touches_requestEntryChime e.treatment.chime).mono (gs := [.faults, .chime]) (by decide) s
    simp only []
    split
    · exact unchangedExcept_trans h (unchangedExcept_mono (unchanged_setFaults _ _) (by decide))
    · exact h
  · exact unchangedExcept_refl _ s

theorem touches_reraise (agent : Agent) (e : Entry) (parameter : Option Word) :
    Touches [.lp0, .faults, .chime] (reraise agent e parameter) := by
  intro s
  unfold reraise
  simp only []
  have h (new : Entry) := unchangedExcept_trans
    (unchangedExcept_mono (gs := [.lp0, .faults, .chime])
      (unchanged_setFaults s { s.faults with entries := replaceEntry new s.faults.entries }) (by decide))
    ((touches_faultReport .reraised agent new).mono (by decide) _)
  split
  · exact unchangedExcept_trans (h _) ((touches_announce _).mono (by decide) _)
  · exact h _

theorem touches_enter (agent : Agent) (e : Entry) : Touches [.lp0, .faults, .chime] (enter agent e) := fun s =>
  unchangedExcept_trans (unchangedExcept_mono (unchanged_setFaults s _) (by decide))
    (unchangedExcept_trans ((touches_faultReport _ _ _).mono (by decide) _) ((touches_announce _).mono (by decide) _))

theorem touches_evict (e : Entry) : Touches [.lp0, .faults, .chime] (evict e) := fun s =>
  unchangedExcept_trans (unchangedExcept_mono (unchanged_setFaults s _) (by decide))
    ((touches_faultReport _ _ _).mono (by decide) _)

theorem touches_dropRaise : Touches [.faults] dropRaise := fun s => unchanged_setFaults s _

theorem touches_takeRaise (agent : Agent) (code origin : Nat) (parameter : Option Word) :
    Touches [.lp0, .faults, .chime, .panel] (takeRaise agent code origin parameter) := by
  intro s
  unfold takeRaise
  refine touches_listEvent (by decide) (fun s' => ?_) s
  split
  · exact (touches_reraise _ _ _).mono (by decide) s'
  · exact (touches_enter _ _).mono (by decide) s'
  · exact ((touches_enter _ _).comp (touches_evict _)).mono (by decide) s'
  · split
    · exact unchangedExcept_trans (touches_dropRaise.mono (by decide) s') ((touches_faultReport _ _ _).mono (by decide) _)
    · exact touches_dropRaise.mono (by decide) s'

theorem touches_internalRaise (code origin : Nat) (parameter : Option Word) :
    Touches [.lp0, .faults, .chime, .panel] (internalRaise code origin parameter) := by
  intro s
  unfold internalRaise
  split
  · exact touches_takeRaise _ _ _ _ s
  · exact unchangedExcept_refl _ s

theorem touches_removeEntry (agent : Agent) (e : Entry) : Touches [.lp0, .faults] (removeEntry agent e) := fun s =>
  unchangedExcept_trans (unchangedExcept_mono (unchanged_setFaults s _) (by decide))
    (unchangedExcept_trans ((touches_faultReport _ _ _).mono (by decide) _)
      (unchangedExcept_mono (unchanged_setFaults _ _) (by decide)))

theorem touches_changeEntryState (event : FaultEvent) (agent : Agent) (e : Entry) (st : EntryState) :
    Touches [.lp0, .faults] (changeEntryState event agent e st) := fun s =>
  unchangedExcept_trans (unchangedExcept_mono (unchanged_setFaults s _) (by decide))
    ((touches_faultReport _ _ _).mono (by decide) _)

theorem touches_clearEntry (agent : Agent) (e : Entry) : Touches [.lp0, .faults] (fun s => clearEntry agent s e) := by
  intro s
  simp only [clearEntry]
  split
  · exact touches_changeEntryState _ _ _ _ s
  · exact touches_removeEntry _ _ s
  · exact unchangedExcept_refl _ s

theorem touches_acknowledgeEntry (agent : Agent) (e : Entry) :
    Touches [.lp0, .faults] (fun s => acknowledgeEntry agent s e) := by
  intro s
  simp only [acknowledgeEntry]
  split
  · exact touches_changeEntryState _ _ _ _ s
  · exact touches_removeEntry _ _ s
  · exact unchangedExcept_refl _ s

theorem touches_clearEntries (agent : Agent) (chosen : List Entry) :
    Touches [.lp0, .faults, .chime, .panel] (clearEntries agent chosen) := fun s =>
  touches_listEvent (by decide) ((Touches.foldl (touches_clearEntry agent) chosen).mono (by decide)) s

theorem touches_acknowledgeEntries (agent : Agent) (chosen : List Entry) :
    Touches [.lp0, .faults, .chime, .panel] (acknowledgeEntries agent chosen) := fun s =>
  touches_listEvent (by decide) ((Touches.foldl (touches_acknowledgeEntry agent) chosen).mono (by decide)) s

theorem touches_internalClear (code origin : Nat) :
    Touches [.lp0, .faults, .chime, .panel] (internalClear code origin) := by
  intro s
  unfold internalClear
  split
  · split
    · exact touches_clearEntries _ _ s
    · exact unchangedExcept_refl _ s
  · exact unchangedExcept_refl _ s

theorem touches_appear (e : Entry) : Touches [.faults, .chime] (fun s => appear s e) := by
  intro s
  have h : unchangedExcept [.faults, .chime] s (if e.unacknowledged then requestEntryChime e.treatment.chime s else s) := by
    split
    · exact (touches_requestEntryChime _).mono (by decide) s
    · exact unchangedExcept_refl _ s
  simp only [appear]
  split
  · exact unchangedExcept_trans h (unchangedExcept_mono (unchanged_setFaults _ _) (by decide))
  · exact h

theorem touches_reevaluate : Touches [.faults, .chime] reevaluate := fun s =>
  unchangedExcept_trans (unchangedExcept_mono (unchanged_setFaults s _) (by decide)) (Touches.foldl touches_appear _ _)

theorem touches_setConditions (conditions : Word) : Touches [.faults, .chime, .panel] (setConditions conditions) := by
  intro s
  unfold setConditions
  split
  · exact unchangedExcept_refl _ s
  · exact touches_listEvent (by decide) (fun s' =>
      unchangedExcept_trans (unchangedExcept_mono (unchanged_setFaults s' _) (by decide))
        (touches_reevaluate.mono (by decide) _)) s

theorem touches_handFlag (bit : Nat) (value : Bool) : Touches [.faults, .chime, .panel] (handFlag bit value) :=
  fun s => touches_setConditions _ s

theorem touches_pageDown : Touches [.faults, .chime, .panel] pageDown := by
  intro s
  refine touches_listEvent (by decide) (fun s' => ?_) s
  simp only []
  split
  · exact unchangedExcept_mono (unchanged_setFaults s' _) (by decide)
  · exact unchangedExcept_refl _ s'

theorem touches_pageUp : Touches [.faults, .chime, .panel] pageUp := fun s =>
  touches_listEvent (by decide) (fun s' => unchangedExcept_mono (unchanged_setFaults s' _) (by decide)) s

theorem touches_acknowledgeFirst : Touches [.lp0, .faults, .chime, .panel] acknowledgeFirst := by
  intro s
  unfold acknowledgeFirst
  split
  · exact touches_acknowledgeEntries _ _ s
  · exact unchangedExcept_refl _ s

theorem touches_emptyList : Touches [.faults, .chime, .panel] emptyList := fun s =>
  unchangedExcept_trans (unchangedExcept_mono (unchanged_setFaults s _) (by decide))
    (unchangedExcept_trans (touches_withdrawContinuous.mono (by decide) _)
      ((touches_markStatus.comp touches_markLines).mono (by decide) _))

end Sys2Proof.Laws
end

