-- ==== Sys2Proof/Laws/BlockFrames.lean ====
section
/-! SUPPORT. What the operations of the panel, the lamp field, the Indication Table, changeover control, the speed
unit and the keys can touch. -/

namespace Sys2Proof.Laws

open Sys2Proof.Machine Sys2Proof.Safety

/-! ## Panel and lamps -/

theorem touches_kickPanel : Touches [.panel] kickPanel := by
  intro s
  unfold kickPanel
  split
  · exact unchanged_setPanel s _
  · exact unchangedExcept_refl _ s

theorem touches_beginRefresh : Touches [.panel] beginRefresh := fun s => unchanged_setPanel s _

theorem touches_settleLamps : Touches [.lamps] settleLamps := fun s =>
  unchangedExcept_trans (unchanged_setLamps s _) (unchanged_setLamps _ _)

theorem touches_conclude : Touches [.lamps, .panel] conclude := fun s =>
  unchangedExcept_trans (touches_settleLamps.mono (by decide) s) (touches_kickPanel.mono (by decide) _)

theorem touches_requestLamp (position : Nat) (r : Setting) : Touches [.lamps] (requestLamp position r) := by
  intro s
  unfold requestLamp
  split
  · exact unchanged_setLamps s _
  · exact unchangedExcept_refl _ s

theorem touches_setGenerator (g : Generator) (c : CadenceGenerator) : Touches [.lamps] (setGenerator g c) := by
  intro s
  cases g <;> exact unchanged_setLamps s _

theorem touches_takeUpWaiting (g : Generator) : Touches [.lamps] (takeUpWaiting g) := fun s => unchanged_setLamps s _

theorem touches_outputReport (cause : OutputCause) (ended : TestEnd) : Touches [.lp0] (outputReport cause ended) :=
  fun s => touches_report _ s

/-- The fields a lamp test touches beside its report. -/
abbrev testFields : List Field := [.faults, .lamps, .meter, .chime, .panel]

theorem touches_clearTest : Touches testFields clearTest := fun s =>
  unchangedExcept_trans (unchangedExcept_mono (unchanged_setLamps s _) (by decide))
    (unchangedExcept_trans ((touches_handFlag _ _).mono (by decide) _) ((touches_setMeterTest _).mono (by decide) _))

theorem touches_startTest (source : TestSource) : Touches (.lp0 :: testFields) (startTest source) := fun s =>
  unchangedExcept_trans (unchangedExcept_mono (unchanged_setLamps s _) (by decide))
    (unchangedExcept_trans ((touches_handFlag _ _).mono (by decide) _)
      (unchangedExcept_trans ((touches_requestOneShot _).mono (by decide) _)
        (unchangedExcept_trans ((touches_setMeterTest _).mono (by decide) _)
          (unchangedExcept_trans ((touches_outputReport _ _).mono (by decide) _) (touches_markStatus.mono (by decide) _)))))

theorem touches_endTest (cause : TestEnd) : Touches (.lp0 :: testFields) (endTest cause) := fun s =>
  unchangedExcept_trans (touches_clearTest.mono (by decide) s)
    (unchangedExcept_trans ((touches_outputReport _ _).mono (by decide) _) (touches_markStatus.mono (by decide) _))

theorem touches_handOutputToKeys (o : OutputState) : Touches [.keys] (handOutputToKeys o) :=
  fun s => unchanged_setKeys s _

theorem touches_leaveLit (o : OutputState) : Touches (.keys :: testFields) (leaveLit o) := by
  intro s
  have rest (dark : State) (h : unchangedExcept (.keys :: testFields) s dark) :
      unchangedExcept (.keys :: testFields) s (markStatus (handOutputToKeys o (chimeLeavesLit (redirectMeter dark)))) :=
    unchangedExcept_trans h (unchangedExcept_trans (touches_redirectMeter.mono (by decide) _)
      (unchangedExcept_trans (touches_chimeLeavesLit.mono (by decide) _)
        (unchangedExcept_trans ((touches_handOutputToKeys o).mono (by decide) _) (touches_markStatus.mono (by decide) _))))
  have dark (x : LampField) : unchangedExcept (.keys :: testFields) s (s.setLamps x) :=
    unchangedExcept_mono (unchanged_setLamps s x) (by decide)
  unfold leaveLit
  apply rest
  split
  · exact unchangedExcept_trans (dark _) (touches_clearTest.mono (by decide) _)
  · exact dark _

theorem touches_enterLit : Touches [.lamps, .meter, .chime, .panel, .keys] enterLit := fun s =>
  unchangedExcept_trans (unchangedExcept_mono (unchanged_setLamps s _) (by decide))
    (unchangedExcept_trans (touches_redirectMeter.mono (by decide) _)
      (unchangedExcept_trans (touches_chimeEntersLit.mono (by decide) _)
        (unchangedExcept_trans ((touches_handOutputToKeys _).mono (by decide) _) (touches_markAll.mono (by decide) _))))

theorem touches_setOutput (o : OutputState) : Touches (.keys :: testFields) (setOutput o) := by
  intro s
  unfold setOutput
  split
  · exact unchangedExcept_refl _ s
  · split
    · exact touches_leaveLit o s
    · split
      · exact touches_enterLit.mono (by decide) s
      · exact unchangedExcept_trans (unchangedExcept_mono (unchanged_setLamps s _) (by decide))
          (unchangedExcept_trans ((touches_handOutputToKeys o).mono (by decide) _) (touches_markStatus.mono (by decide) _))

theorem touches_darknessChanged (cause : OutputCause) :
    Touches (.lp0 :: .keys :: testFields) (darknessChanged cause) := by
  intro s
  have moved (c : OutputCause) (o : OutputState) :
      unchangedExcept (.lp0 :: .keys :: testFields) s (outputReport c .dark (setOutput o s)) :=
    unchangedExcept_trans ((touches_setOutput o).mono (by decide) s) ((touches_outputReport _ _).mono (by decide) _)
  have stayed (c : OutputCause) : unchangedExcept (.lp0 :: .keys :: testFields) s (outputReport c .dark s) :=
    (touches_outputReport _ _).mono (by decide) s
  have either (b : Bool) {t u : State} (ht : unchangedExcept (.lp0 :: .keys :: testFields) s t)
      (hu : unchangedExcept (.lp0 :: .keys :: testFields) s u) :
      unchangedExcept (.lp0 :: .keys :: testFields) s (if b then t else u) := by
    cases b
    · exact hu
    · exact ht
  unfold darknessChanged
  cases s.lamps.output
  · exact unchangedExcept_refl _ s
  · exact either s.darkened (moved _ _) (stayed _)
  · exact either s.darkened (stayed _) (moved _ _)
  · exact either s.darkened (moved _ _) (stayed _)
  · exact either s.darkened (moved _ _) (stayed _)

/-! ## Degraded aspects and lamp sense -/

/-- The fields an internal raise or clear for a slot touches. -/
abbrev slotFaultFields : List Field := [.lp0, .table, .faults, .chime, .panel]

theorem touches_setDegraded (i : Fin 64) (value : Bool) : Touches [.table] (setDegraded i value) :=
  fun s => unchanged_setSlot s i _

theorem touches_assess (i : Fin 64) : Touches slotFaultFields (fun s => assess s i) := by
  intro s
  simp only [assess]
  split
  · split
    · split
      · exact unchangedExcept_trans ((touches_setDegraded i false).mono (by decide) s)
          ((touches_internalClear _ _).mono (by decide) _)
      · exact unchangedExcept_refl _ s
    · split
      · exact unchangedExcept_refl _ s
      · exact unchangedExcept_trans ((touches_setDegraded i true).mono (by decide) s)
          ((touches_internalRaise _ _ _).mono (by decide) _)
  · exact unchangedExcept_refl _ s

theorem touches_assessAll : Touches slotFaultFields assessAll := fun s => Touches.foldl touches_assess _ s

theorem touches_lampReport (channel : Fin 24) (before after : LampCondition) (cause current : Nat) :
    Touches [.lp0] (lampReport channel before after cause current) := fun s => touches_report _ s

theorem touches_conditionFaults (channel : Fin 24) (before after : LampCondition) (current : Nat) :
    Touches [.lp0, .faults, .chime, .panel] (conditionFaults channel before after current) := by
  intro s
  have h : unchangedExcept [.lp0, .faults, .chime, .panel] s
      (if before = .openLamp then internalClear 1005 (lampOrigin channel) s else s) := by
    split
    · exact touches_internalClear _ _ s
    · exact unchangedExcept_refl _ s
  cases after
  · exact h
  · exact unchangedExcept_trans h (touches_internalRaise _ _ _ _)
  · exact unchangedExcept_trans h (touches_internalRaise _ _ _ _)

theorem touches_setLampChannel (channel : Fin 24) (c : LampChannel) : Touches [.lamps] (setLampChannel channel c) :=
  fun s => unchanged_setLamps s _

theorem touches_takeSample (channel : Fin 24) (current : Nat) :
    Touches (.lamps :: slotFaultFields) (takeSample channel current) := by
  intro s
  unfold takeSample
  simp only []
  split
  · exact (touches_setLampChannel _ _).mono (by decide) s
  · exact unchangedExcept_trans ((touches_setLampChannel _ _).mono (by decide) s)
      (unchangedExcept_trans ((touches_lampReport _ _ _ _ _).mono (by decide) _)
        (unchangedExcept_trans ((touches_conditionFaults _ _ _ _).mono (by decide) _)
          (unchangedExcept_trans (touches_assessAll.mono (by decide) _) (touches_conclude.mono (by decide) _))))

/-! ## The Indication Table -/

/-- The fields the presentation of a slot touches. -/
abbrev presentFields : List Field := [.lp0, .table, .faults, .lamps, .meter, .chime, .panel]

theorem touches_deliver (i : Fin 64) (d : SlotDef) (content : Shown) : Touches [.lamps, .meter, .panel] (deliver i d content) := by
  intro s
  have marked (f : Option Nat) : unchangedExcept [.lamps, .meter, .panel] s (match f with
      | some f => markItem (1 + f) s
      | none => s) := by
    cases f with
    | none => exact unchangedExcept_refl _ s
    | some f => exact (touches_markItem _).mono (by decide) s
  unfold deliver
  split
  · simp only []
    split
    · exact unchangedExcept_trans (marked _) ((touches_presentToMeter _).mono (by decide) _)
    · exact marked _
  · exact (Touches.foldl (op := fun s (q : Nat × Setting) => requestLamp q.1 q.2 s)
      (fun q => touches_requestLamp q.1 q.2) _).mono (by decide) s
  · exact (touches_requestLamp _ _).mono (by decide) s
  · exact unchangedExcept_refl _ s

theorem touches_present (i : Fin 64) (must flashing : Bool) : Touches presentFields (present i must flashing) := by
  intro s
  unfold present
  simp only []
  split
  · split
    · exact unchangedExcept_trans (unchangedExcept_mono (unchanged_setSlot s i _) (by decide))
        (unchangedExcept_trans ((touches_deliver i _ _).mono (by decide) _) ((touches_assess i).mono (by decide) _))
    · exact unchangedExcept_refl _ s
  · exact unchangedExcept_refl _ s

theorem touches_requestBandLamp (on : Bool) : Touches [.lamps] (requestBandLamp on) := by
  intro s
  unfold requestBandLamp
  split
  · exact touches_requestLamp _ _ s
  · exact unchangedExcept_refl _ s

/-- The fields an evaluation of the band touches. -/
abbrev bandFields : List Field := [.lp0, .band, .lamps, .chime, .panel]

theorem touches_evaluateBand : Touches bandFields evaluateBand := by
  intro s
  unfold evaluateBand
  simp only []
  split
  · exact unchangedExcept_refl _ s
  · refine unchangedExcept_trans (unchangedExcept_mono (unchanged_setBand s s.nextBand) (by decide))
      (unchangedExcept_trans ?_ (unchangedExcept_trans ((touches_report _).mono (by decide) _)
        (touches_markStatus.mono (by decide) _)))
    split
    · split
      · exact unchangedExcept_trans ((touches_requestBandLamp true).mono (by decide) _)
          ((touches_requestOneShot .triple).mono (by decide) _)
      · exact (touches_requestBandLamp true).mono (by decide) _
    · split
      · exact (touches_requestBandLamp false).mono (by decide) _
      · exact unchangedExcept_refl _ _

theorem touches_evaluateBandFor (i : Fin 64) : Touches bandFields (evaluateBandFor i) := by
  intro s
  unfold evaluateBandFor
  split
  · exact touches_evaluateBand s
  · exact unchangedExcept_refl _ s

theorem touches_slotReport (i : Fin 64) (cause : Option LapseCause) : Touches [.lp0] (slotReport i cause) :=
  fun s => touches_report _ s

theorem touches_clearDegraded (i : Fin 64) (was : Bool) :
    Touches [.lp0, .faults, .chime, .panel] (clearDegraded i was) := by
  intro s
  unfold clearDegraded
  split
  · exact touches_internalClear _ _ s
  · exact unchangedExcept_refl _ s

theorem touches_alarm (i : Fin 64) : Touches [.lp0, .faults, .chime, .panel] (alarm i) := by
  intro s
  unfold alarm
  simp only []
  split
  · exact touches_internalRaise _ _ _ s
  · exact unchangedExcept_refl _ s

theorem touches_lapse (i : Fin 64) (cause : LapseCause) : Touches (.band :: presentFields) (lapse i cause) := fun s =>
  unchangedExcept_trans (unchangedExcept_mono (unchanged_setSlot s i _) (by decide))
    (unchangedExcept_trans ((touches_slotReport i _).mono (by decide) _)
      (unchangedExcept_trans ((touches_clearDegraded i _).mono (by decide) _)
        (unchangedExcept_trans ((touches_alarm i).mono (by decide) _)
          (unchangedExcept_trans ((touches_present i _ _).mono (by decide) _)
            ((touches_evaluateBandFor i).mono (by decide) _)))))

theorem touches_madeLive (i : Fin 64) (before : SlotState) :
    Touches [.lp0, .faults, .chime, .panel] (madeLive i before) := by
  intro s
  unfold madeLive
  split
  · exact unchangedExcept_refl _ s
  · refine unchangedExcept_trans ?_ (touches_internalClear _ _ _)
    split
    · exact (touches_slotReport i none).mono (by decide) s
    · exact unchangedExcept_refl _ s

theorem touches_writeSlotZero (speed : Option Nat) : Touches (.band :: presentFields) (writeSlotZero speed) := by
  intro s
  unfold writeSlotZero
  simp only []
  split
  · rename_i v
    have written := unchangedExcept_mono (gs := .band :: presentFields)
      (unchanged_setSlot s 0 ((s.table[(0 : Fin 64)]).live (BitVec.ofNat 16 v) 5 s.now .stopped none)) (by decide)
    split
    · exact written
    · exact unchangedExcept_trans written (unchangedExcept_trans ((touches_madeLive 0 _).mono (by decide) _)
        (unchangedExcept_trans ((touches_present 0 _ _).mono (by decide) _) (touches_evaluateBand.mono (by decide) _)))
  · split
    · exact touches_lapse 0 _ s
    · exact unchangedExcept_refl _ s

theorem touches_applyPair (source : Nat) (pair : Nat × Word) : Touches [.table] (fun s => applyPair source s pair) := by
  intro s
  simp only [applyPair]
  split
  · exact unchanged_setSlot s _ _
  · exact unchangedExcept_refl _ s

theorem touches_presentPair (before : State) (pair : Nat × Word) :
    Touches presentFields (fun s => presentPair before s pair) := by
  intro s
  simp only [presentPair]
  split
  · split
    · exact unchangedExcept_refl _ s
    · exact touches_present _ _ _ s
  · exact unchangedExcept_refl _ s

theorem touches_recoverPair (before : State) (pair : Nat × Word) :
    Touches [.lp0, .faults, .chime, .panel] (fun s => recoverPair before s pair) := by
  intro s
  simp only [recoverPair]
  split
  · exact touches_madeLive _ _ s
  · exact unchangedExcept_refl _ s

theorem touches_applyPairs (source : Nat) (pairs : List (Nat × Word)) :
    Touches (.band :: presentFields) (applyPairs source pairs) := by
  intro s
  have h := unchangedExcept_trans ((Touches.foldl (touches_applyPair source) pairs).mono (by decide) s)
    (unchangedExcept_trans ((Touches.foldl (touches_recoverPair s) pairs).mono (gs := .band :: presentFields) (by decide) _)
      ((Touches.foldl (touches_presentPair s) pairs).mono (by decide) _))
  unfold applyPairs
  simp only []
  split
  · exact unchangedExcept_trans h (touches_evaluateBand.mono (by decide) _)
  · exact h

theorem touches_presentAll : Touches presentFields presentAll := fun s =>
  unchangedExcept_trans (Touches.foldl (fun i => touches_present i true false) _ s)
    ((touches_requestBandLamp false).mono (by decide) _)

/-! ## Changeover control -/

/-- The fields changeover control can touch. -/
abbrev changeoverFields : List Field := .band :: .changeover :: presentFields

theorem touches_changeoverReport (event : ChangeoverEvent) (t : Transit) (elapsed : Time) (slots cause : Nat) :
    Touches [.lp0] (changeoverReport event t elapsed slots cause) := fun s => touches_report _ s

theorem touches_enterTransit (i : Fin 64) : Touches presentFields (fun s => enterTransit s i) := fun s =>
  unchangedExcept_trans (unchangedExcept_mono (unchanged_setSlot s i _) (by decide))
    (unchangedExcept_trans ((touches_clearDegraded i _).mono (by decide) _) (touches_present i _ _ _))

theorem touches_releaseSlot (i : Fin 64) : Touches presentFields (fun s => releaseSlot s i) := fun s =>
  unchangedExcept_trans (unchangedExcept_mono (unchanged_setSlot s i _) (by decide)) (touches_present i _ _ _)

theorem touches_endTransit : Touches [.changeover, .faults, .chime, .panel] endTransit := fun s =>
  unchangedExcept_trans (unchangedExcept_mono (unchanged_setChangeover s _) (by decide))
    ((touches_handFlag _ _).mono (by decide) _)

theorem touches_completeByLastSlot : Touches changeoverFields completeByLastSlot := by
  intro s
  unfold completeByLastSlot
  split
  · split
    · exact unchangedExcept_trans (touches_endTransit.mono (by decide) s)
        (unchangedExcept_trans ((touches_changeoverReport _ _ _ _ _).mono (by decide) _)
          (touches_markStatus.mono (by decide) _))
    · exact unchangedExcept_refl _ s
  · exact unchangedExcept_refl _ s

theorem touches_completeByFlag (source : Nat) : Touches changeoverFields (completeByFlag source) := by
  intro s
  unfold completeByFlag
  split
  · split
    · exact unchangedExcept_trans ((Touches.foldl touches_releaseSlot _).mono (by decide) s)
        (unchangedExcept_trans (touches_endTransit.mono (by decide) _)
          (unchangedExcept_trans ((touches_changeoverReport _ _ _ _ _).mono (by decide) _)
            (touches_markStatus.mono (by decide) _)))
    · exact unchangedExcept_refl _ s
  · exact unchangedExcept_refl _ s

theorem touches_clearIncomplete : Touches [.lp0, .changeover, .faults, .chime, .panel] clearIncomplete := by
  intro s
  unfold clearIncomplete
  split
  · exact unchangedExcept_trans (unchangedExcept_mono (unchanged_setChangeover s _) (by decide))
      ((touches_internalClear _ _).mono (by decide) _)
  · exact unchangedExcept_refl _ s

theorem touches_supersede : Touches [.lp0] supersede := by
  intro s
  unfold supersede
  split
  · exact touches_changeoverReport _ _ _ _ _ s
  · exact unchangedExcept_refl _ s

theorem touches_startChangeover (target window : Nat) : Touches changeoverFields (startChangeover target window) :=
  fun s => unchangedExcept_trans (touches_supersede.mono (by decide) s)
    (unchangedExcept_trans (unchangedExcept_mono (unchanged_setChangeover _ _) (by decide))
      (unchangedExcept_trans ((Touches.foldl touches_enterTransit _).mono (by decide) _)
        (unchangedExcept_trans ((touches_handFlag _ _).mono (by decide) _)
          (unchangedExcept_trans (touches_clearIncomplete.mono (by decide) _)
            (unchangedExcept_trans ((touches_changeoverReport _ _ _ _ _).mono (by decide) _)
              (unchangedExcept_trans (touches_markStatus.mono (by decide) _) (touches_completeByLastSlot _)))))))

theorem touches_afterUpdate (source : Nat) (complete madeLive : Bool) :
    Touches changeoverFields (afterUpdate source complete madeLive) := by
  intro s
  have cleared (flagged : State) (h : unchangedExcept changeoverFields s flagged) : unchangedExcept changeoverFields s
      (if (madeLive && flagged.allAspectsLive) = true then clearIncomplete flagged else flagged) := by
    split
    · exact unchangedExcept_trans h (touches_clearIncomplete.mono (by decide) _)
    · exact h
  apply cleared
  split
  · exact unchangedExcept_trans (touches_completeByLastSlot s) (touches_completeByFlag source _)
  · exact touches_completeByLastSlot s

/-! ## The speed unit -/

/-- The fields a window end can touch beside the free-value counter. -/
abbrev windowFields : List Field := .band :: .speed :: presentFields

theorem touches_judgeSensor (id : WheelId) (stepped : Bool) :
    Touches [.lp0, .speed, .faults, .chime, .panel] (judgeSensor id stepped) := by
  intro s
  have put (w : Wheel) : unchangedExcept [.lp0, .speed, .faults, .chime, .panel] s (s.setSpeed (s.speed.setWheel id w)) :=
    unchangedExcept_mono (unchanged_setSpeed s _) (by decide)
  unfold judgeSensor
  simp only []
  split
  · split
    · exact unchangedExcept_trans (put _) ((touches_internalRaise _ _ _).mono (by decide) _)
    · exact put _
  · split
    · exact unchangedExcept_trans (put _) ((touches_internalClear _ _).mono (by decide) _)
    · exact put _

theorem touches_applyVerdict (code : Nat) (v : Verdict) (parameter : Nat) :
    Touches [.lp0, .faults, .chime, .panel] (applyVerdict code v parameter) := by
  intro s
  cases v
  · exact unchangedExcept_refl _ s
  · exact touches_internalRaise _ _ _ s
  · exact touches_internalClear _ _ s

theorem touches_compareChannels (r : ChannelWindow × ChannelWindow) :
    Touches [.lp0, .speed, .faults, .chime, .panel] (compareChannels r) := by
  intro s
  unfold compareChannels
  split
  · exact unchangedExcept_trans (unchangedExcept_mono (unchanged_setSpeed s _) (by decide))
      ((touches_applyVerdict _ _ _).mono (by decide) _)
  · exact unchangedExcept_refl _ s

theorem touches_judgeReference : Touches [.speed] judgeReference := by
  intro s
  unfold judgeReference
  split
  · exact unchanged_setSpeed s _
  · exact unchangedExcept_refl _ s

theorem touches_checkReference (comparison : Option (Nat × Nat)) :
    Touches [.lp0, .speed, .faults, .chime, .panel] (checkReference comparison) := by
  intro s
  unfold checkReference
  split
  · exact unchangedExcept_trans (unchangedExcept_mono (unchanged_setSpeed s _) (by decide))
      ((touches_applyVerdict _ _ _).mono (by decide) _)
  · exact unchangedExcept_refl _ s

theorem touches_writeSelection (chosen : Selection × Option Nat) : Touches windowFields (writeSelection chosen) := fun s =>
  unchangedExcept_trans (unchangedExcept_mono (unchanged_setSpeed s _) (by decide))
    ((touches_writeSlotZero _).mono (by decide) _)

theorem touches_showDirection (d : Direction) : Touches [.speed, .panel] (showDirection d) := by
  intro s
  unfold showDirection
  split
  · exact unchangedExcept_refl _ s
  · exact unchangedExcept_trans (unchangedExcept_mono (unchanged_setSpeed s _) (by decide))
      (touches_markStatus.mono (by decide) _)

theorem touches_updateStandstill (displayed : Option Nat) :
    Touches [.speed, .faults, .chime, .panel] (updateStandstill displayed) := fun s =>
  unchangedExcept_trans (unchangedExcept_mono (unchanged_setSpeed s _) (by decide))
    ((touches_handFlag _ _).mono (by decide) _)

theorem touches_storeWindow (r : ChannelWindow × ChannelWindow) (comparison : Option (Nat × Nat)) :
    Touches [.speed] (storeWindow r comparison) := fun s => unchanged_setSpeed s _

theorem touches_reportWindow (r : ChannelWindow × ChannelWindow) : Touches [.lp0] (reportWindow r) := by
  intro s
  unfold reportWindow
  split
  · exact touches_report _ s
  · exact unchangedExcept_refl _ s

theorem touches_applyPendingWheel : Touches [.speed] applyPendingWheel := by
  intro s
  unfold applyPendingWheel
  split
  · exact unchanged_setSpeed s _
  · exact unchangedExcept_refl _ s

theorem touches_closeWindows (r : ChannelWindow × ChannelWindow) :
    Touches [.lp0, .speed, .faults, .chime, .panel, .fresh] (closeWindows r) := by
  intro s
  have h : unchangedExcept [.lp0, .speed, .faults, .chime, .panel, .fresh] s
      { s with
        speed := { s.speed with wheelA := s.speed.wheelA.closed r.1, wheelB := s.speed.wheelB.closed r.2 }
        fresh := s.fresh + 2 } := by
    intro f hf
    cases f <;> first | rfl | simp at hf
  exact unchangedExcept_trans h (unchangedExcept_trans ((touches_judgeSensor .a _).mono (by decide) _)
    ((touches_judgeSensor .b _).mono (by decide) _))

/-- A window end touches the speed unit, slot 0 with what it presents and raises, the band, LP0 and the free-value
counter. -/
theorem touches_windowEnds : Touches (.fresh :: windowFields) windowEnds := fun s =>
  unchangedExcept_trans (touches_applyPendingWheel.mono (by decide) s)
    (unchangedExcept_trans ((touches_closeWindows _).mono (by decide) _)
      (unchangedExcept_trans ((touches_compareChannels _).mono (by decide) _)
        (unchangedExcept_trans (touches_judgeReference.mono (by decide) _)
          (unchangedExcept_trans ((touches_checkReference _).mono (by decide) _)
            (unchangedExcept_trans ((touches_writeSelection _).mono (by decide) _)
              (unchangedExcept_trans ((touches_showDirection _).mono (by decide) _)
                (unchangedExcept_trans ((touches_updateStandstill _).mono (by decide) _)
                  (unchangedExcept_trans ((touches_storeWindow _ _).mono (by decide) _)
                    ((touches_reportWindow _).mono (by decide) _)))))))))

/-! ## Keys -/

/-- The fields that a key's sample can touch by its report and its action. -/
abbrev keyFields : List Field := [.lp0, .lp1, .faults, .lamps, .meter, .chime, .panel, .keys]

theorem touches_putKey (i : Fin 6) (k : Key) : Touches [.keys] (putKey i k) := fun s => unchanged_setKeys s _

theorem touches_queueOn (set : Byte) (l : Link) (f : Frame) : Touches [.lp0, .lp1] (queueOn set l f) := by
  intro s
  unfold queueOn
  split
  · exact touches_queueFrame l f s
  · exact unchangedExcept_refl _ s

theorem touches_keyReport (i : Fin 6) (event : KeyEvent) (fromStuck : Bool) :
    Touches [.lp0, .lp1] (keyReport i event fromStuck) := by
  intro s
  unfold keyReport
  split
  · exact unchangedExcept_trans (touches_queueOn _ _ _ s) (touches_queueOn _ _ _ _)
  · exact unchangedExcept_refl _ s

theorem touches_changeDim (d : DimState) : Touches [.lp0, .lamps, .panel] (changeDim d) := by
  intro s
  unfold changeDim
  split
  · exact unchangedExcept_refl _ s
  · exact unchangedExcept_trans (unchangedExcept_mono (unchanged_setLamps s _) (by decide))
      (unchangedExcept_trans ((touches_outputReport _ _).mono (by decide) _) (touches_markStatus.mono (by decide) _))

theorem touches_pressAction (i : Fin 6) : Touches keyFields (pressAction i) := by
  intro s
  unfold pressAction
  split
  · exact touches_acknowledgeFirst.mono (by decide) s
  · exact touches_pageUp.mono (by decide) s
  · exact touches_pageDown.mono (by decide) s
  · split
    · exact (touches_startTest _).mono (by decide) s
    · exact unchangedExcept_refl _ s
  · exact (touches_changeDim _).mono (by decide) s
  · exact unchangedExcept_refl _ s

theorem touches_releaseAction (i : Fin 6) : Touches keyFields (releaseAction i) := by
  intro s
  unfold releaseAction
  split
  · exact (touches_endTest _).mono (by decide) s
  · exact unchangedExcept_refl _ s

theorem touches_press (i : Fin 6) (k : Key) : Touches keyFields (press i k) := by
  intro s
  unfold press
  have h : ∀ pressed : Key, unchangedExcept keyFields s (keyReport i .pressed false (putKey i pressed s)) := fun _ =>
    unchangedExcept_trans ((touches_putKey _ _).mono (by decide) s) ((touches_keyReport _ _ _).mono (by decide) _)
  split
  · exact unchangedExcept_trans (h _) (touches_pressAction _ _)
  · exact h _

theorem touches_release (i : Fin 6) (k : Key) : Touches keyFields (release i k) := by
  intro s
  unfold release
  have h : ∀ (released : Key) (fromStuck : Bool),
      unchangedExcept keyFields s (keyReport i .released fromStuck (putKey i released s)) := fun _ _ =>
    unchangedExcept_trans ((touches_putKey _ _).mono (by decide) s) ((touches_keyReport _ _ _).mono (by decide) _)
  split
  · exact unchangedExcept_trans (h _ _) ((touches_internalClear _ _).mono (by decide) _)
  · split
    · exact unchangedExcept_trans (h _ _) (touches_releaseAction _ _)
    · exact h _ _

theorem touches_judgeSample (i : Fin 6) (k : Key) (baseline sample : Nat) :
    Touches keyFields (judgeSample i k baseline sample) := by
  intro s
  have put : ∀ x : Key, unchangedExcept keyFields s (putKey i x s) := fun x => (touches_putKey i x).mono (by decide) s
  unfold judgeSample
  simp only
  repeat' split
  all_goals first
    | exact put _
    | exact touches_press _ _ s
    | exact touches_release _ _ s

/-- A key's sample touches the keys and what its report and action reach. -/
theorem touches_sampleKey (samples : Vector (BitVec 12) 6) (i : Fin 6) :
    Touches keyFields (fun s => sampleKey samples s i) := by
  intro s
  dsimp only
  unfold sampleKey
  simp only
  split
  · exact (touches_putKey _ _).mono (by decide) s
  · exact touches_judgeSample _ _ _ _ s

/-- A key handled whole touches no more: what follows the sample settles the lamps and starts the panel transmitter. -/
theorem touches_scanKey (samples : Vector (BitVec 12) 6) (i : Fin 6) :
    Touches keyFields (fun s => scanKey samples s i) := fun s =>
  unchangedExcept_trans (touches_sampleKey samples i s) (touches_conclude.mono (by decide) _)

/-- A scan of all six keys touches no more than one key does. -/
theorem touches_scanKeys (samples : Vector (BitVec 12) 6) (keys : List (Fin 6)) :
    Touches keyFields (fun s => keys.foldl (scanKey samples) s) := Touches.foldl (touches_scanKey samples) keys

end Sys2Proof.Laws
end

