-- ==== Sys2Proof/Laws/Specs.lean ====
section
/-! SUPPORT. What the shared operations answer: the hand-over, the checks of an order, the replies, saturating counts,
the flag words and the events of the fault list. -/

namespace Sys2Proof.Laws

open Sys2Proof.Machine Sys2Proof.Safety

/-! ## Ports -/

theorem port_setPort (s : State) (l : Link) (p : Port) : (s.setPort l p).port l = p := by cases l <;> rfl

theorem port_setPort_other (s : State) (l m : Link) (p : Port) (h : m ≠ l) : (s.setPort l p).port m = s.port m := by
  cases l <;> cases m <;> first | rfl | exact absurd rfl h

/-- Queueing and the mark of a wake do not touch each other. -/
theorem enqueue_wokeAt (p : Port) (clock : Nat) (f : Frame) (w : Option Nat) :
    ({ p with wokeAt := w } : Port).enqueue clock f = { p.enqueue clock f with wokeAt := w } := by
  unfold Port.enqueue
  dsimp only
  repeat' split
  all_goals rfl

theorem phase_frameHeard (l : Link) (s : State) : (frameHeard l s).phase = s.phase := by
  cases l <;> rfl

theorem linkEnabled_frameHeard (l m : Link) (s : State) : (frameHeard l s).linkEnabled m = s.linkEnabled m := by
  cases l <;> cases m <;> rfl

theorem repliedWith_queueFrame (f : Frame) (l : Link) (s : State) (h : s.linkEnabled l = true) :
    repliedWith f l s (queueFrame l f (frameHeard l s)) := by
  unfold queueFrame
  rw [if_pos ((linkEnabled_frameHeard l l s).trans h)]
  refine ⟨?_, fun m hm => ?_⟩
  · rw [port_setPort, frameHeard, port_setPort, enqueue_wokeAt]
    cases l <;> rfl
  · rw [port_setPort_other _ _ _ _ hm, frameHeard, port_setPort_other _ _ _ _ hm]

/-- A break in progress keeps the moment of its fall; the line's level is the only other thing a port notes of it. -/
theorem fallen_of_low (p : Port) (clock : Nat) (h : p.lineLow = true) : p.fallen clock = p := by
  cases p
  simp only at h
  subst h
  rfl

/-- BREAK on a link that takes no bytes counts nothing. -/
theorem effectBreak_not_listening (l : Link) (s : State) (h : s.listening l = false) :
    effectBreak l s = s.setPort l ((s.port l).fallen s.clock) := by
  simp only [effectBreak, h, Bool.false_and, Bool.false_eq_true, if_false]

/-- WAKE changes nothing where the line cannot have been low for 1 ms in DORMANT. -/
theorem effectWake_not_allowed (l : Link) (s : State) (h : s.wakeAllowed l = false) : effectWake l s = s := by
  simp only [effectWake, h, Bool.false_eq_true, if_false]

theorem queueFrame_disabled (f : Frame) (l : Link) (s : State) (h : s.linkEnabled l = false) : queueFrame l f s = s := by
  simp only [queueFrame, h, Bool.false_eq_true, if_false]

theorem enqueue_room (p : Port) (clock : Nat) (f : Frame) (h : p.queue.length < Config.queueCapacity) :
    (p.enqueue clock f).queue = p.queue ++ [f] := by
  unfold Port.enqueue
  rw [if_pos h]

theorem dropNewestReport_length {q r : List Frame} (h : dropNewestReport q = some r) : r.length + 1 = q.length := by
  cases q with
  | nil => simp [dropNewestReport] at h
  | cons head tail =>
    simp only [dropNewestReport] at h
    split at h
    · rename_i any
      rw [List.any_eq_true] at any
      obtain ⟨f, mem, hf⟩ := any
      have e := List.length_eraseP_of_mem (p := fun f : Frame => !f.isReply) (List.mem_reverse.mpr mem) hf
      have pos : 0 < tail.length := List.length_pos_of_mem mem
      rw [← Option.some.inj h, List.length_cons, List.length_reverse, e, List.length_reverse, List.length_cons]
      omega
    · exact absurd h (by simp)

theorem enqueue_bounded (p : Port) (clock : Nat) (f : Frame) (h : p.queue.length ≤ Config.queueCapacity) :
    (p.enqueue clock f).queue.length ≤ Config.queueCapacity := by
  unfold Port.enqueue
  split
  · simp only [List.length_append, List.length_cons, List.length_nil]; omega
  · split
    · split
      · rename_i shorter hd
        have := dropNewestReport_length hd
        simp only [List.length_append, List.length_cons, List.length_nil]; omega
      · exact h
    · exact h

/-! ## The hand-over and the checks of an order -/

theorem listening_enabled {s : State} {l : Link} (h : s.listening l = true) : s.linkEnabled l = true := by
  simp only [State.listening, Bool.and_eq_true] at h
  exact h.1.2

theorem received_enabled {k : OrderKind} {l : Link} {p : List Byte} {s : State} (h : received k l p s = true) :
    s.linkEnabled l = true := by
  simp only [received, Bool.and_eq_true] at h
  exact listening_enabled h.1

/-- A frame that passes the hand-over reaches its owning block, with the low period of a wake over. -/
theorem takeOrder_received {k : OrderKind} {l : Link} {p : List Byte} {s : State} (owner : State → State)
    (h : received k l p s = true) : takeOrder k l p owner s = owner (frameHeard l s) := by
  simp only [received, Bool.and_eq_true, Option.isNone_iff_eq_none] at h
  simp only [takeOrder, handTo, phase_frameHeard, h.1, h.2, if_true]

theorem takeOrder_notListening {k : OrderKind} {l : Link} {p : List Byte} {s : State} (owner : State → State)
    (h : s.listening l = false) : takeOrder k l p owner s = s := by
  simp only [takeOrder, h, Bool.false_eq_true, if_false]

theorem firstFailure_none_iff (checks : List Check) : firstFailure checks = none ↔ ∀ c ∈ checks, c.passes = true := by
  induction checks with
  | nil => simp [firstFailure]
  | cons c rest ih =>
    unfold firstFailure
    cases hc : c.passes <;> simp [hc, ih]

theorem checked_passes {k : OrderKind} {l : Link} {checks : List Check} (effect : State → State) (s : State)
    (h : passes checks) : checked k l checks effect s = effect s := by
  simp only [checked, show firstFailure checks = none from h]

theorem checked_refused {k : OrderKind} {l : Link} {checks : List Check} {r : Reason} {item : Nat}
    (effect : State → State) (s : State) (h : firstFailure checks = some (r, item)) :
    checked k l checks effect s = refuse k l r item s := by
  simp only [checked, h]

/-! ## Counts and flag words -/

theorem saturate_eq_min {limit n : Nat} (h : n ≤ limit) : saturate limit n = min limit (n + 1) := by
  unfold saturate
  split <;> omega

theorem saturate_le {limit n : Nat} (h : n ≤ limit) : saturate limit n ≤ limit := by
  rw [saturate_eq_min h]
  exact Nat.min_le_left _ _

theorem le_saturate {limit n : Nat} : n ≤ saturate limit n := by
  unfold saturate
  split <;> omega

theorem getLsbD_withBit {w : Nat} (word : BitVec w) (i j : Nat) (value : Bool) (h : i < w) :
    (withBit word i value).getLsbD j = if j = i then value else word.getLsbD j := by
  by_cases hij : j = i
  · subst hij
    cases value <;> simp [withBit, h]
  · by_cases hj : j < w
    · cases value <;> simp [withBit, hij, hj]
    · have hw : w ≤ j := by omega
      simp [hij, BitVec.getLsbD_of_ge _ _ hw]

/-! ## The bits of a line (R144) -/

theorem byteBits_length (c : LinkSettings) (data : Byte) :
    (byteBits c.parity c.stopBits data).length = c.sentBits := by
  unfold byteBits LinkSettings.sentBits LinkSettings.characterBits parityBitOf
  cases c.parity <;> simp <;> omega

theorem lineBytes_length (f : Frame) : (lineBytes f).length = f.lineLength := by
  simp [lineBytes, checkedBytes, b16, Frame.lineLength]

/-- The levels of a frame are as many as the bit times it is in transmission for. -/
theorem frameBits_length (c : LinkSettings) (f : Frame) :
    (frameBits c.parity c.stopBits f).length = f.lineLength * c.sentBits := by
  unfold frameBits
  simp only [List.length_flatMap, byteBits_length, List.map_const', List.sum_replicate, lineBytes_length, smul_eq_mul]

theorem levelAt_idle {bits : List Bool} {place : Nat} (h : bits.length ≤ place) : levelAt bits place = true := by
  simp [levelAt, List.getD, List.getElem?_eq_none h]

/-! ## The chime generator (R130) -/

theorem elapsed_self (s : State) : s.elapsed s.clock = 0 := by
  simp [State.elapsed]

/-- A pattern that has ended leaves none that is over. -/
theorem endPattern_notOver (s : State) : (endPattern s).chimePatternOver = false := by
  have single : decide (patternLength .single ≤ s.elapsed s.clock) = false := by rw [elapsed_self]; rfl
  have triple : decide (patternLength .triple ≤ s.elapsed s.clock) = false := by rw [elapsed_self]; rfl
  unfold endPattern soundPending
  cases s.chime.pending
  · rfl
  · exact single
  · exact triple
  · rfl

/-! ## The fault list -/

/-- What the tail of a list event (demand, cursor, panel marks) leaves of the list its change made. -/
theorem evaluateDemand_entries (s : State) : (evaluateDemand s).faults.entries = s.faults.entries := by
  have h (x : FaultList) (chimed : Touches [.chime] requestContinuous ∧ Touches [.chime] withdrawContinuous) :
      (requestContinuous (s.setFaults x)).faults = x ∧ (withdrawContinuous (s.setFaults x)).faults = x :=
    ⟨chimed.1 (s.setFaults x) .faults (by decide), chimed.2 (s.setFaults x) .faults (by decide)⟩
  unfold evaluateDemand
  simp only []
  split
  · rfl
  · split
    · rw [(h _ ⟨touches_requestContinuous, touches_withdrawContinuous⟩).1]
    · rw [(h _ ⟨touches_requestContinuous, touches_withdrawContinuous⟩).2]

end Sys2Proof.Laws
end

