-- ==== Sys2Proof/WellFormed.lean ====
section
/-! DEFINITION. Which commands the hardware can bring about: the bounds the operand types do not carry. -/

namespace Sys2Proof

/-- A frame body is at most 64 bytes, the kind byte among them (R147). -/
def payloadFits (payload : List Byte) : Bool := payload.length ≤ 63

/-- A sampled lamp current is 0 to 1000 mA (R112). -/
def currentFits (current : Nat) : Bool := current ≤ 1000

/-- The command can come about on the part. -/
def Instr.wellFormed : Instr → Bool
  | .defineSlot _ p | .defineAspect _ p | .defineFault _ p | .setSpeedParameters _ p | .setLampChannel _ p
  | .setCadence _ p | .setKey _ p | .setLink _ p | .setGeneral _ p | .start _ p | .stop _ p | .restart _ p
  | .sleep _ p _ | .update _ p | .keepAlive _ p | .raiseFault _ p | .clearFault _ p | .acknowledgeFault _ p
  | .setConditions _ p | .changeover _ p | .referenceSpeed _ p | .setWheel _ p | .setDim _ p | .lampTest _ p
  | .lampReset _ p | .resumeOutputs _ p | .clearSpeedFlags _ p | .queryStatus _ p | .querySlot _ p
  | .queryFaults _ p | .queryCounters _ p | .querySpeed _ p => payloadFits p
  | .lampSample _ current => currentFits current
  | .receiveByte .. | .gapError _ | .lineBreak _ | .frameSent _ | .linkIntervalExpiry _ | .monitorExpiry _
  | .changeoverWindowExpiry | .wheelPhaseChange .. | .windowEnd | .periodStart _ | .switchingEnd _ | .lampTestLimit
  | .deskDarkLineChange _ | .deskDarkTaken | .dipEntry | .dipEnd | .fullReset _ | .wake _ | .keyScan _
  | .stuckTimerExpiry _ | .meterTargetReached | .chimePatternEnd | .panelRefreshExpiry | .panelFrameEnd
  | .supplyDipLevelCrossing _ | .resetRelease _ | .breakEnd _ => true

end Sys2Proof
end

