-- ==== Sys2Proof/Tests/Slice0.lean ====
section
/-! SUPPORT. Small tests: the well-formedness checks refuse ill-formed commands, one step of each command, and for each
statement states and operands that meet its hypotheses (theorems `witness_<Name>`), at the boundaries of its clauses. -/

namespace Sys2Proof.Tests

-- The tests one after another: each in a thread of its own takes more memory than the check allows.
set_option Elab.async false

open Sys2Proof Sys2Proof.Machine Sys2Proof.Safety

/-! ## Well-formedness -/

/-- 64 payload bytes: with the kind byte, one more than a frame body holds. -/
def longPayload : List Byte := List.replicate 64 0

/-- Every order refuses a payload of 64 bytes and takes one of 63. -/
theorem test_wellFormed_payload :
    (OrderKind.all.all (fun k => !(orderOf k .lp0 longPayload .high).wellFormed
      && (orderOf k .lp0 longPayload.tail .high).wellFormed)) = true := by decide +kernel

/-- A lamp current above 1000 mA is refused. -/
theorem test_wellFormed_current :
    (Instr.lampSample 0 1001).wellFormed = false ∧ (Instr.lampSample 0 1000).wellFormed = true := by decide

/-! ## States -/

/-- The state a command answers. -/
def after (c : Instr) (s : State) : State :=
  match exec c s with
  | .next t => t
  | .fault _ | .refused _ => s

/-- CONFIGURING with idle lines. -/
def configuring : State := State.cleared

/-- A NUMBER slot of owner 1 with a deadline of 300 ms and a lapse alarm. -/
def numberDef : SlotDef := ⟨0x02, 0x02, 3, .number none none none 0, true⟩
/-- An ASPECT slot of owners 0 to 2 on position 0, with attention. -/
def aspectDef : SlotDef := ⟨0x07, 0x07, 7, .aspect 0 [0] true 3, false⟩
/-- A STATE slot of owner 0 on position 5, without a deadline. -/
def stateDef : SlotDef := ⟨0x01, 0, 16, .state 0 5, false⟩

/-- A slot AWAITING its first value. -/
def awaiting (d : SlotDef) (m : Monitor) : Slot :=
  { Slot.undefined with definition := some d, state := .awaiting, monitor := m }

/-- RUNNING and LIT, with slots 1, 2 and 63 defined, system 1 active and every timer begun at 0. -/
def running : State :=
  { State.cleared with
    phase := .running
    aspects := [⟨0, 0, 0, []⟩, ⟨1, 5, 3, [⟨0, .one, .steady⟩]⟩, ⟨1, 6, 4, [⟨0, .one, .slow⟩]⟩]
    table := (((State.cleared.table.set 1 (awaiting numberDef (.armed 300))).set 2
      (awaiting aspectDef (.armed 1000))).set 63 (awaiting stateDef .stopped))
    lp0 := { Port.cleared with monitor := .begun 0 }, lp1 := { Port.cleared with monitor := .begun 0 }
    speed := { SpeedUnit.cleared with windowEnd := some 200 }
    lamps := { LampField.cleared with
      output := .lit, slowGenerator := ⟨10, 10, some ⟨0, 500000, 500000⟩⟩
      fastGenerator := ⟨7, 7, some ⟨0, 250000, 250000⟩⟩ }
    keys := ⟨.replicate 6 (Key.cleared .default), some 20000, .lit⟩
    panel := ⟨0, none, some 1000000⟩ }

/-- At a moment of the microsecond clock. -/
def atUs (us : Nat) (s : State) : State := { s with clock := us }

/-- An entry of class B, SINGLE, seen under every word. -/
def entryOf (code : Nat) (state : EntryState) : Entry :=
  ⟨code, 0, ⟨.b, 0, 0, .single, 0⟩, state, 255, 0, 0, none, true⟩

/-! ## The step, the invariants and the queue of commands -/

theorem witness_IdleTakesDueEventOrTime :
    (configuring.pending = [] ∧ configuring.dueEvents = [] ∧ configuring.inReset = false)
      ∧ (running.pending = [] ∧ running.dueEvents = [] ∧ running.inReset = false)
      ∧ (running.lit = true ∧ running.meter.moving = false)
      ∧ ({ configuring with resets := ⟨true, false, .resetLine⟩ } : State).dueEvents = []
      ∧ (atUs 1000000 { configuring with panel := ⟨0, none, some 1000000⟩ }).dueEvents = [.panelRefreshExpiry]
      ∧ (atUs 999999 { configuring with panel := ⟨0, none, some 1000000⟩ }).dueEvents = [] := by decide +kernel

/-- A command that is neither a reset nor a wake. -/
theorem witness_EveryCommandCompletesKeepingQueue :
    (∀ k, Instr.chimePatternEnd ≠ .fullReset k) ∧ (∀ k, Instr.chimePatternEnd ≠ .resetRelease k)
      ∧ (∀ l, Instr.chimePatternEnd ≠ .wake l) := by simp

theorem witness_TimerRowNotDueChangesNothing :
    (∀ l ∈ [Link.lp0, .lp1], configuring.gapOver l = false ∧ configuring.frameOver l = false)
      ∧ (∀ l ∈ [Link.lp0, .lp1], configuring.intervalDue l = false) ∧ configuring.testLimitReached = false
      ∧ (∀ i : Fin 64, configuring.monitorDue i = false)
      ∧ configuring.timeDue (configuring.changeover.transit.map Transit.expiry) = false
      ∧ configuring.timeDue configuring.speed.windowEnd = false
      ∧ (∀ g ∈ [Generator.slow, .fast], configuring.dueAt (configuring.nextPeriodStart g) = false)
      ∧ (∀ i : Fin 12, configuring.dueAt configuring.lamps.drives[i].switching = false)
      ∧ (∀ c : Fin 24, configuring.sampleDue c = false)
      ∧ configuring.deskDarkDue = false ∧ configuring.dipDue = false ∧ configuring.dipOver = false
      ∧ (configuring.running && configuring.dueAt configuring.keys.scanAt) = false
      ∧ (∀ i : Fin 6, configuring.stuckDue i = false)
      ∧ configuring.meterArrived = false ∧ configuring.chimePatternOver = false
      ∧ configuring.dueAt configuring.panel.refresh = false ∧ configuring.panelFrameOver = false := by decide +kernel

/-- RUNNING with a command waiting. -/
def waiting : State := { running with pending := [.chimePatternEnd] }

theorem witness_StepKeepsPortsSound : portsSound waiting ∧ ∃ t, step waiting = .next t :=
  ⟨by decide +kernel, ⟨_, rfl⟩⟩

theorem witness_StepKeepsFaultListSound : listSound waiting ∧ ∃ t, step waiting = .next t :=
  ⟨by decide +kernel, ⟨_, rfl⟩⟩

theorem witness_StepKeepsTableSound : tableSound waiting ∧ ∃ t, step waiting = .next t :=
  ⟨by decide +kernel, ⟨_, rfl⟩⟩

theorem witness_StepKeepsConfigurationSound : configurationSound waiting ∧ ∃ t, step waiting = .next t :=
  ⟨by decide +kernel, ⟨_, rfl⟩⟩

theorem witness_StepKeepsOutputsSound : outputsSound waiting ∧ ∃ t, step waiting = .next t :=
  ⟨by decide +kernel, ⟨_, rfl⟩⟩

/-! ## Serial links -/

/-- A reply and a report of no payload. -/
def aReply : Frame := ⟨0x40, []⟩
def aReport : Frame := ⟨0x57, []⟩

/-- A port with a queue. -/
def queued (q : List Frame) : Port := { Port.cleared with queue := q, replyLost := 65535 }

theorem witness_TransmitQueueFollowsTable :
    ((queued []).reportLost ≤ 65535 ∧ (queued []).replyLost ≤ 65535)
      ∧ (queued []).queue.length < 8 ∧ (queued (.replicate 7 aReply)).queue.length < 8
      ∧ (8 ≤ (queued (.replicate 8 aReply)).queue.length ∧ aReport.isReply = false)
      ∧ (8 ≤ (queued (.replicate 8 aReport)).queue.length ∧ aReply.isReply = true
        ∧ (queued (.replicate 8 aReport)).queue = aReport :: .replicate 6 aReport ++ aReport :: []
        ∧ aReport.isReply = false ∧ ∀ g ∈ ([] : List Frame), g.isReply = true)
      ∧ (8 ≤ (queued (aReport :: .replicate 7 aReply)).queue.length
        ∧ ∀ g ∈ (queued (aReport :: .replicate 7 aReply)).queue.tail, g.isReply = true) := by decide +kernel

/-- What the full queue does in its three cases. -/
theorem test_enqueue_full :
    ((queued (.replicate 8 aReport)).enqueue 0 aReport).reportLost = 1
      ∧ ((queued (.replicate 8 aReport)).enqueue 0 aReply).queue = .replicate 7 aReport ++ [aReply]
      ∧ ((queued (aReport :: .replicate 7 aReply)).enqueue 0 aReply).replyLost = 65535 := by decide +kernel

/-- An ACCEPT in transmission on LP0 since 0: six line bytes of 11 bits at 38400 baud are 1718.75 us. -/
def sending (us : Nat) (rest : List Frame) (pending : Option LinkSettings) : State :=
  atUs us { running with lp0 := { Port.cleared with queue := ⟨0x40, [0x25]⟩ :: rest, pendingSettings := pending } }

theorem witness_FrameSentMovesTheQueueOn :
    ((sending 1719 [] none).port .lp0).queue = ⟨0x40, [0x25]⟩ :: []
      ∧ (([0x25] : List Byte).length + 5) * bitsOfByte (sending 1719 [] none).lp0.settings * 1000000
        ≤ (sending 1719 [] none).elapsed 0 * baud 2
      ∧ ¬ (Link.lp0 = .lp0 ∧ (sending 1719 [] none).sleep.waiting = true ∧ ([] : List Frame) = [])
      ∧ (sending 1718 [] none).frameOver .lp0 = false ∧ (sending 1719 [] none).frameOver .lp0 = true
      ∧ ((sending 1719 [] (some ⟨4, .none, 2, 20, true⟩)).port .lp0).pendingSettings = some ⟨4, .none, 2, 20, true⟩
      ∧ (after (.frameSent .lp0) (sending 1719 [] (some ⟨4, .none, 2, 20, true⟩))).lp0.settings
        = ⟨4, .none, 2, 20, true⟩
      ∧ (after (.frameSent .lp0) (sending 1719 [aReport] none)).lp0.queue = [aReport] := by decide +kernel

/-- The lead byte C5 hex of a frame on the line: start bit, 1 0 1 0 0 0 1 1, even parity 0, stop bit. -/
theorem witness_FrameSentGoesOutBitByBit :
    (sending 287 [] none).lp0.queue = ⟨0x40, [0x25]⟩ :: [] ∧ (lineBytes ⟨0x40, [0x25]⟩)[1]? = some 2
      ∧ 0 < bitsOfByte (sending 287 [] none).lp0.settings
      ∧ (1 * bitsOfByte (sending 287 [] none).lp0.settings + 0) * 1000000 ≤ (sending 287 [] none).elapsed 0 * baud 2
      ∧ (sending 287 [] none).elapsed 0 * baud 2
        < (1 * bitsOfByte (sending 287 [] none).lp0.settings + 0 + 1) * 1000000
      ∧ (List.range 11).map (fun j => (sending (j * 1000000 / 38400 + 1) [] none).transmitLevel .lp0)
        = [false, true, false, true, false, false, false, true, true, false, true]
      ∧ byteBits .odd 2 0x01 = [false, true, false, false, false, false, false, false, false, false, true, true]
      ∧ byteBits .none 1 0x80 = [false, false, false, false, false, false, false, false, true, true]
      ∧ running.lp0.queue = [] := by decide +kernel

theorem witness_SleepReplySentEntersDormant :
    let s : State := { sending 1719 [] none with phase := .configuring, sleep := ⟨true, none⟩ }
    s.lp0.queue = [⟨0x40, [0x25]⟩] ∧ s.frameOver .lp0 = true ∧ s.sleep.waiting = true
      ∧ (after (.frameSent .lp0) s).phase = .dormant := by decide +kernel

/-- A receiver in a state on LP1. -/
def receiving (st : RxState) (length : Nat) (body : List Byte) (high : Byte) (s : State) : State :=
  { s with lp1 := { s.lp1 with receiver := ⟨st, length, body, high, 0⟩ } }

theorem witness_ReceiverAssemblesFrame :
    (∀ b ∈ [(0xC5, false), (0x40, true), (0x00, false), (0x01, true)],
        goodByteArrives .lp1 b.1 b.2 true configuring)
      ∧ (configuring.port .lp1).receiver.state = .hunt
      ∧ ((receiving .length 0 [] 0 configuring).port .lp1).receiver.state = .length
      ∧ (1 ≤ (1 : Byte).toNat ∧ (64 : Byte).toNat ≤ 64)
      ∧ ((receiving .body 1 [] 0 configuring).port .lp1).receiver.state = .body
      ∧ ((receiving .checkHigh 1 [0x30] 0 configuring).port .lp1).receiver.state = .checkHigh
      ∧ (after (.receiveByte .lp1 0x40 true true .high) (receiving .length 0 [] 0 configuring)).lp1.receiver.length = 64
      ∧ (after (.receiveByte .lp1 0xC5 false true .high) (receiving .body 1 [] 0 configuring)).lp1.receiver.state
        = .checkHigh := by decide +kernel

/-- The published check value of this CRC (polynomial 1021 hex, initial FFFF hex, no final XOR) over the digits 1 to 9. -/
theorem test_frameCheck_of_nine_digits :
    frameCheck [0x31, 0x32, 0x33, 0x34, 0x35, 0x36, 0x37, 0x38, 0x39] = 0x29B1 := by decide +kernel

theorem test_lineBytes_of_queryStatus :
    (lineBytes ⟨0x30, []⟩).take 3 = [0xC5, 0x01, 0x30] ∧ (lineBytes ⟨0x30, []⟩).length = 5 := by decide +kernel

/-- The last byte of a frame of a kind without payload, with its check. -/
def lastByteOf (kind : Byte) (s : State) : State :=
  receiving .checkLow 1 [kind] ((frameCheck [1, kind]).extractLsb' 8 8) s

/-- The low check byte of a frame of a kind without payload. -/
def lowCheck (kind : Byte) : Byte := (frameCheck [1, kind]).extractLsb' 0 8

theorem witness_CompleteFrameIsHandedOver :
    (∀ kind ∈ [(0x30 : Byte), 0x99],
        goodByteArrives .lp1 (lowCheck kind) (oddOnes (lowCheck kind)) true (lastByteOf kind running)
          ∧ ((lastByteOf kind running).port .lp1).receiver.state = .checkLow
          ∧ ((lastByteOf kind running).port .lp1).receiver.body = kind :: []
          ∧ ((lastByteOf kind running).port .lp1).receiver.checkHigh ++ lowCheck kind
            = frameCheck (BitVec.ofNat 8 ((lastByteOf kind running).port .lp1).receiver.length :: kind :: []))
      ∧ OrderKind.ofCode 0x30 = some .queryStatus ∧ OrderKind.ofCode 0x99 = none
      ∧ (after (.receiveByte .lp1 (lowCheck 0x30) (oddOnes (lowCheck 0x30)) true .high)
          (lastByteOf 0x30 running)).lp1.queue.map Frame.kind = [0x42]
      ∧ (after (.receiveByte .lp1 (lowCheck 0x99) (oddOnes (lowCheck 0x99)) true .high)
          (lastByteOf 0x99 running)).lp1.queue = [⟨0x41, [0x99, 4, 0, 0, 0]⟩] := by decide +kernel

theorem witness_OrderRefusedAtHandOver :
    (running.listening .lp0 = true ∧ OrderKind.lengthFits .stop [0] = false)
      ∧ (running.listening .lp1 = true ∧ OrderKind.lengthFits .stop [] = true ∧ OrderKind.onLink .stop .lp1 = false)
      ∧ (configuring.listening .lp0 = true ∧ OrderKind.onLink .stop .lp0 = true
        ∧ OrderKind.inPhase .stop configuring.phase = false)
      ∧ ({ running with sleep := ⟨true, none⟩ } : State).listening .lp0 = false
      ∧ (after (.stop .lp0 [0]) running).lp0.queue = [⟨0x41, [0x1A, 3, 0, 0, 0]⟩]
      ∧ (after (.stop .lp1 []) running).lp1.queue = [⟨0x41, [0x1A, 2, 0, 0, 0]⟩]
      ∧ (after (.stop .lp0 []) configuring).lp0.queue = [⟨0x41, [0x1A, 1, 0, 0, 0]⟩] := by decide +kernel

theorem witness_LineErrorsCountedAndFrameDropped :
    let s := receiving .length 0 [] 0 running
    (portsSound s ∧ s.listening .lp1 = true ∧ s.beganTooEarly .lp1 = false ∧ (s.port .lp1).receiver.state ≠ .hunt)
      ∧ parityWrong (s.port .lp1).settings.parity 0x01 false = true
      ∧ parityWrong (s.port .lp1).settings.parity 0x01 true = false
      ∧ goodByteArrives .lp1 0x00 false true s ∧ goodByteArrives .lp1 0x41 false true s
      ∧ ((0 : Byte).toNat = 0 ∧ 64 < (0x41 : Byte).toNat)
      ∧ (goodByteArrives .lp1 0x00 false true (lastByteOf 0x30 running)
        ∧ ((lastByteOf 0x30 running).port .lp1).receiver.state = .checkLow
        ∧ ((lastByteOf 0x30 running).port .lp1).receiver.checkHigh ++ (0x00 : Byte)
          ≠ frameCheck (BitVec.ofNat 8 ((lastByteOf 0x30 running).port .lp1).receiver.length
            :: ((lastByteOf 0x30 running).port .lp1).receiver.body))
      ∧ ((running.port .lp1).receiver.state = .hunt ∧ (running.port .lp1).wokeAt = none)
      ∧ ((atUs 5000 s).listening .lp1 = true
        ∧ ((atUs 5000 s).port .lp1).settings.gapLimit * 1000 ≤ (atUs 5000 s).elapsed 0)
      ∧ (after (.gapError .lp1) (atUs 5000 s)).lp1.counters.gap = 1
      ∧ (after (.gapError .lp1) (atUs 4999 s)).lp1.counters.gap = 0
      ∧ ((after (.lineBreak .lp1) s).port .lp1).lineLow = true
      ∧ (after (.breakEnd .lp1) (after (.lineBreak .lp1) s)).lp1.lineLow = false := by decide +kernel

/-- LP1 some microseconds after a low period of its line woke the part. -/
def wokenFor (us : Nat) : State := atUs us { running with lp1 := { running.lp1 with wokeAt := some 0 } }

/-- The low period of a wake is no break (R167), and a later one is, once it has had its 2 character times of 11 bits at
38400 baud (573 us), once the line rose or once an order came. -/
theorem witness_BreakAfterWake :
    ((wokenFor 572).listening .lp1 = true ∧ (wokenFor 572).lp1.lineLow = false
        ∧ ¬ characterTimesPassed 2 (wokenFor 572).lp1.settings ((wokenFor 572).elapsed 0)
        ∧ characterTimesPassed 2 (wokenFor 573).lp1.settings ((wokenFor 573).elapsed 0))
      ∧ (after (.lineBreak .lp1) (wokenFor 572)).lp1.counters.lineBreak = 0
      ∧ (after (.lineBreak .lp1) (wokenFor 573)).lp1.counters.lineBreak = 1
      ∧ (after (.lineBreak .lp1) (after (.breakEnd .lp1) (wokenFor 0))).lp1.counters.lineBreak = 1
      ∧ (after (.lineBreak .lp1) (after (.queryStatus .lp1 []) (wokenFor 0))).lp1.counters.lineBreak = 1
      ∧ (after (.lineBreak .lp1) (wokenFor 0)).lp1.wakesFrom = some 428
      ∧ fallenFor { (wokenFor 0).lp1 with settings := ⟨0, .even, 1, 5, true⟩ } 0 = none
      ∧ (tick (wokenFor 573)).lp1.wokeAt = none := by
  unfold characterTimesPassed; decide +kernel

/-- The link monitor of LP1 after an interval with some errors, a mark and a clean run. -/
def interval (errors cleanRun : Nat) (mark : Bool) : State :=
  atUs 1000000 { running with lp1 := { running.lp1 with monitor := ⟨some 1000000, errors, cleanRun, mark⟩ } }

theorem witness_LinkIntervalJudgesErrors :
    (∀ q ∈ [(8, false), (255, true), (1, true), (7, false), (0, true), (0, false)],
        listSound (interval q.1 0 q.2) ∧ (interval q.1 0 q.2).phase = .running
          ∧ (interval q.1 0 q.2).due 1000000 = true)
      ∧ hasRoom (interval 8 0 false)
      ∧ (after (.linkIntervalExpiry .lp1) (interval 8 0 false)).faults.entries.map (fun e => (e.code, e.origin))
        = [(1009, 181)]
      ∧ (after (.linkIntervalExpiry .lp1) (interval 7 0 false)).faults.entries = []
      ∧ (after (.linkIntervalExpiry .lp1) (interval 0 8 true)).lp1.monitor.mark = true
      ∧ (after (.linkIntervalExpiry .lp1) (interval 0 9 true)).lp1.monitor.mark = false := by decide +kernel

/-! ## The Indication Table -/

/-- DEFINE SLOT of a slot as NUMBER, owner and refresh 1, deadline 300 ms, fallback BLANK, alarm on. -/
def numberRecord (slot : Byte) : List Byte :=
  [slot, 1, 2, 2, 3, 0x80, 0, 0, 0xff] ++ .replicate 16 0 ++ [0, 0, 0, 1]

/-- DEFINE SLOT of a slot as ASPECT on positions 3 and 4 with attention, count 15. -/
def aspectRecord (slot : Byte) : List Byte :=
  [slot, 2, 0x1e, 0x1e, 15, 0, 63, 2, 3, 4] ++ .replicate 16 0 ++ [1, 15, 0]

/-- DEFINE SLOT of a slot as STATE on position 23, without a deadline. -/
def stateRecord (slot : Byte) : List Byte :=
  [slot, 3, 1, 0, 16, 0, 6, 0, 23] ++ .replicate 20 0

/-- DEFINE SLOT with kind NONE. -/
def noneRecord (slot : Byte) : List Byte := slot :: .replicate 28 0

theorem witness_DefineSlotReplacesDefinition :
    (∀ p ∈ [numberRecord 1, aspectRecord 63, stateRecord 2, noneRecord 63],
        received .defineSlot .lp0 p configuring ∧ passes (defineSlotChecks p))
      ∧ (byteAt (numberRecord 1) 0).toNat = (1 : Fin 64).val ∧ (byteAt (aspectRecord 63) 0).toNat = (63 : Fin 64).val
      ∧ (byteAt (noneRecord 63) 1).toNat = 0
      ∧ (after (.defineSlot .lp0 (numberRecord 1)) configuring).table[1].definition = some numberDef
      ∧ (after (.defineSlot .lp0 (aspectRecord 63)) configuring).table[63].definition
        = some ⟨0x1e, 0x1e, 15, .aspect 63 [3, 4] true 15, false⟩
      ∧ (after (.defineSlot .lp0 (stateRecord 2)) configuring).table[2].definition
        = some ⟨1, 0, 16, .state 6 23, false⟩ := by decide +kernel

theorem witness_SlotZeroDefinitionIsFixed :
    running.table[(0 : Fin 64)].definition = State.reset.table[(0 : Fin 64)].definition
      ∧ received .defineSlot .lp0 (numberRecord 0) configuring ∧ byteAt (numberRecord 0) 0 = 0 := by decide +kernel

/-- UPDATE from a source without the COMPLETE flag. -/
def updateRecord (source flags : Byte) (pairs : List Byte) : List Byte := [source, flags] ++ pairs

theorem witness_UpdateRefusedAtFirstFailure :
    (received .update .lp1 (updateRecord 0 0 [1, 0, 5]) running ∧ ¬ sourceFits .lp1 0)
      ∧ (received .update .lp0 (updateRecord 5 0 [1, 0, 5]) running ∧ ¬ sourceFits .lp0 5)
      ∧ (∀ q ∈ [([9, 0, 0], 1, Reason.noSlot), ([64, 0, 0], 1, .noSlot), ([0, 0, 0], 1, .reservedSlot),
            ([63, 0, 1], 1, .notOwner), ([2, 0, 5], 2, .notActiveSystem), ([1, 0x80, 0], 1, .badValue),
            ([2, 0, 7], 1, .badValue)],
          received .update .lp0 (updateRecord (BitVec.ofNat 8 q.2.1) 0 q.1) running
            ∧ sourceFits .lp0 (byteAt (updateRecord (BitVec.ofNat 8 q.2.1) 0 q.1) 0).toNat
            ∧ 0 < pairCount (updateRecord (BitVec.ofNat 8 q.2.1) 0 q.1)
            ∧ refusalAt running (updateRecord (BitVec.ofNat 8 q.2.1) 0 q.1) 0 = some q.2.2)
      ∧ (refusalAt running (updateRecord 1 0 [1, 0, 5, 1, 0, 6]) 0 = none
        ∧ 1 < pairCount (updateRecord 1 0 [1, 0, 5, 1, 0, 6])
        ∧ refusalAt running (updateRecord 1 0 [1, 0, 5, 1, 0, 6]) 1 = some .duplicateSlot)
      ∧ (after (.update .lp0 (updateRecord 1 0 [1, 0, 5, 1, 0, 6])) running).lp0.queue = [⟨0x41, [0x20, 11, 1, 0, 0]⟩]
      ∧ (after (.update .lp1 (updateRecord 0 0 [1, 0, 5])) running).lp1.queue = [⟨0x41, [0x20, 6, 0, 0, 0]⟩] := by
  decide +kernel

/-- A changeover to system 1 with slot 2 in TRANSIT. -/
def inTransit : State :=
  { running with
    changeover := ⟨1, some ⟨2, 0, 5000⟩, false⟩
    table := running.table.set 2 { awaiting aspectDef .suspended with state := .transit } }

theorem witness_UpdateAppliesEveryPair :
    (let p := updateRecord 1 0 [1, 0, 5, 2, 0, 6];
      received .update .lp1 p running ∧ sourceFits .lp1 (byteAt p 0).toNat
        ∧ (∀ k, k < pairCount p → refusalAt running p k = none)
        ∧ (pairRead p 0).1 = (1 : Fin 64).val ∧ (pairRead p 1).1 = (2 : Fin 64).val
        ∧ running.table[(1 : Fin 64)].definition = some numberDef
        ∧ (63 : Fin 64).val ∉ namedBefore p (pairCount p) ∧ running.table[(63 : Fin 64)].state ≠ .transit
        ∧ (byteAt p 1).getLsbD 0 = false
        ∧ (after (.update .lp1 p) running).table[1].monitor = .armed 300
        ∧ (after (.update .lp1 p) running).table[2].rank = some 4
        ∧ (after (.update .lp1 p) running).lp1.queue = [⟨0x40, [0x20]⟩])
      ∧ (let p := updateRecord 1 1 [1, 0, 5];
        received .update .lp0 p inTransit ∧ sourceFits .lp0 (byteAt p 0).toNat
          ∧ (∀ k, k < pairCount p → refusalAt inTransit p k = none)
          ∧ (byteAt p 1).getLsbD 0 = true ∧ (byteAt p 0).toNat = inTransit.changeover.active
          ∧ inTransit.changeover.transit.isSome ∧ (2 : Fin 64).val ∉ namedBefore p (pairCount p)
          ∧ inTransit.table[(2 : Fin 64)].state = .transit
          ∧ inTransit.table[(2 : Fin 64)].definition = some aspectDef
          ∧ (after (.update .lp0 p) inTransit).table[2].state = .awaiting
          ∧ (after (.update .lp0 p) inTransit).changeover.transit = none) := by decide +kernel

/-- Slot 2 in a state after a lapse that left an active fault 1008 in the list. -/
def alarmed (st : SlotState) : State :=
  let s := internalRaise 1008 66 (some 1) { inTransit with general := General.default }
  { s with
    lp0 := Port.cleared
    table := s.table.set 2 { awaiting aspectDef (if st = .transit then .suspended else .stopped) with state := st, lapses := 1 } }

/-- A slot lapsed, then in TRANSIT, then LIVE has its fault 1008 cleared without a report RECOVERED; from LAPSED it is
reported too (R17). -/
theorem witness_UpdateClearsIndicationLapsed :
    (∀ st ∈ [SlotState.transit, .lapsed],
        listSound (alarmed st) ∧ received .update .lp0 (updateRecord 1 0 [2, 0, 5]) (alarmed st)
          ∧ refusalAt (alarmed st) (updateRecord 1 0 [2, 0, 5]) 0 = none
          ∧ pairCount (updateRecord 1 0 [2, 0, 5]) = 1 ∧ (alarmed st).lp0.queue.length < 7
          ∧ (alarmed st).faults.entries.map (fun e => e.state) = [.activeUnacked]
          ∧ (after (.update .lp0 (updateRecord 1 0 [2, 0, 5])) (alarmed st)).faults.entries.map (fun e => e.state)
            = [.clearedUnacked])
      ∧ ((after (.update .lp0 (updateRecord 1 0 [2, 0, 5])) (alarmed .lapsed)).lp0.queue.map (fun f => f.kind)).take 3
        = [0x40, 0x51, 0x53]
      ∧ ((after (.update .lp0 (updateRecord 1 0 [2, 0, 5])) (alarmed .transit)).lp0.queue.map (fun f => f.kind)).take 2
        = [0x40, 0x53] := by decide +kernel

/-- After an UPDATE from LP0. -/
def updated (p : List Byte) (s : State) : State := after (.update .lp0 p) s

/-- The hypotheses of the clauses on one pair: alone in its record, no COMPLETE flag, not of the permitted-speed slot. -/
abbrev oneGoodPair (p : List Byte) (i : Fin 64) (s : State) : Prop :=
  received .update .lp0 p s ∧ sourceFits .lp0 (byteAt p 0).toNat ∧ pairCount p = 1 ∧ refusalAt s p 0 = none
    ∧ (pairRead p 0).1 = i.val ∧ (byteAt p 1).getLsbD 0 = false ∧ s.general.permittedSlot ≠ some i

/-- RUNNING with slot 4 a NUMBER slot on panel field 15. -/
def fielded : State :=
  { running with table := running.table.set 4 (awaiting ⟨2, 2, 3, .number none (some 15) none 2, false⟩ (.armed 300)) }

/-- A pair is presented: a new value, a repeated one, a restrictive change (R37) and a panel field (R19). -/
theorem witness_UpdatePresentsItsPair :
    (oneGoodPair (updateRecord 1 0 [2, 0, 5]) 2 running ∧ ¬ repeatsValue running.table[(2 : Fin 64)] 5
        ∧ requestAt running aspectDef 5 false 0 = some (.steady .one) ∧ requestAt running aspectDef 5 false 1 = none
        ∧ (updated (updateRecord 1 0 [2, 0, 5]) running).lamps.positions[0] = ⟨.steady .one, none, .steady .one⟩)
      ∧ (let five := updated (updateRecord 1 0 [2, 0, 5]) running
        oneGoodPair (updateRecord 1 0 [2, 0, 5]) 2 five ∧ repeatsValue five.table[(2 : Fin 64)] 5
          ∧ oneGoodPair (updateRecord 1 0 [2, 0, 6]) 2 five
          ∧ restrictiveChange five five.table[(2 : Fin 64)] aspectDef 6 = true
          ∧ restrictiveChange five five.table[(2 : Fin 64)] aspectDef 5 = false)
      ∧ (oneGoodPair (updateRecord 0 0 [63, 0, 1]) 63 running
        ∧ (updated (updateRecord 0 0 [63, 0, 1]) running).lamps.positions[5].requested = .steady .one)
      ∧ (oneGoodPair (updateRecord 1 0 [4, 0, 7]) 4 fielded ∧ fielded.table[(4 : Fin 64)].state ≠ .live
        ∧ (updated (updateRecord 1 0 [4, 0, 7]) fielded).panel.sending.map (fun f => f.frame)
          = some ⟨0x61, [15, 0, 0, 7, 2]⟩) :=
  ⟨by decide +kernel, by decide +kernel, by decide +kernel, by decide +kernel⟩

/-- The changeover's incomplete mark, with the fault 1003 it raised. -/
def incompleteMarked : State :=
  { internalRaise 1003 190 (some 1) running with changeover := ⟨1, none, true⟩, lp0 := Port.cleared }

/-- A changeover completes by LAST SLOT (R44) or by the flag (R45), and the incomplete mark goes when the last aspect
slot becomes LIVE (R49). -/
theorem witness_UpdateCompletesChangeover :
    (received .update .lp0 (updateRecord 1 0 [2, 0, 5]) inTransit
        ∧ refusalAt inTransit (updateRecord 1 0 [2, 0, 5]) 0 = none
        ∧ inTransit.changeover.transit = some ⟨2, 0, 5000⟩
        ∧ (updated (updateRecord 1 0 [2, 0, 5]) inTransit).lp0.queue.contains (changeoverFrame 1 2 1 0 0 0 0) = true
        ∧ (updated (updateRecord 1 1 [1, 0, 5]) inTransit).lp0.queue.contains (changeoverFrame 1 2 1 0 1 1 0) = true
        ∧ (updated (updateRecord 1 0 [1, 0, 5]) inTransit).changeover.transit = some ⟨2, 0, 5000⟩)
      ∧ (listSound incompleteMarked ∧ incompleteMarked.changeover.incomplete = true
        ∧ incompleteMarked.faults.entries.length = 1
        ∧ 2 ∈ namedBefore (updateRecord 1 0 [2, 0, 5]) (pairCount (updateRecord 1 0 [2, 0, 5]))
        ∧ incompleteMarked.table[(2 : Fin 64)].isAspect = true ∧ incompleteMarked.table[(2 : Fin 64)].state ≠ .live
        ∧ refusalAt incompleteMarked (updateRecord 1 0 [2, 0, 5]) 0 = none
        ∧ (∀ i : Fin 64, incompleteMarked.table[i].isAspect = true →
            (updated (updateRecord 1 0 [2, 0, 5]) incompleteMarked).table[i].state = .live)
        ∧ (updated (updateRecord 1 0 [2, 0, 5]) incompleteMarked).changeover.incomplete = false
        ∧ (updated (updateRecord 1 0 [1, 0, 5]) incompleteMarked).changeover.incomplete = true) := by decide +kernel

/-- An attention slot given a more restrictive aspect flashes (R37); a less restrictive one does not. -/
theorem test_update_restrictive_change :
    let five := after (.update .lp0 (updateRecord 1 0 [2, 0, 5])) running
    (after (.update .lp0 (updateRecord 1 0 [2, 0, 6])) five).table[2].shown = .aspect [(0, .slow .one)]
      ∧ (after (.update .lp0 (updateRecord 1 0 [2, 0, 5])) (after (.update .lp0 (updateRecord 1 0 [2, 0, 6])) five)).table[2].shown
        = .aspect [(0, .steady .one)] := by decide +kernel

/-- Slot 1 LIVE with a value from source 1, its monitor armed to 300 ms. -/
def live : State :=
  { running with
    table := running.table.set 1 { awaiting numberDef (.armed 300) with
      state := .live, value := some 5, lastSource := some 1, lastUpdate := some 0, lapses := 255 } }

theorem witness_KeepAliveRearmsItsRefreshSlots :
    (received .keepAlive .lp1 [0] live ∧ ¬ sourceFits .lp1 (byteAt [0] 0).toNat)
      ∧ (received .keepAlive .lp1 [1] (atUs 200000 live) ∧ sourceFits .lp1 (byteAt [1] 0).toNat
        ∧ live.table[(1 : Fin 64)].definition = some numberDef ∧ live.table[(1 : Fin 64)].state = .live
        ∧ numberDef.refresh.getLsbD (byteAt [1] 0).toNat = true ∧ numberDef.deadline ≤ 15
        ∧ live.table[(2 : Fin 64)].definition = some aspectDef ∧ live.table[(2 : Fin 64)].state ≠ .live
        ∧ live.table[(63 : Fin 64)].definition = some stateDef ∧ 16 ≤ stateDef.deadline
        ∧ live.table[(3 : Fin 64)].definition = none)
      ∧ (after (.keepAlive .lp1 [1]) (atUs 200000 live)).table[1].monitor = .armed 500
      ∧ (after (.keepAlive .lp1 [2]) (atUs 200000 live)).table[1].monitor = .armed 300 := by decide +kernel

theorem witness_MonitorExpiryLapsesSlot :
    (∀ q ∈ [atUs 300000 live, atUs 300000 running],
        q.phase = .running ∧ q.table[(1 : Fin 64)].definition = some numberDef
          ∧ q.table[(1 : Fin 64)].monitor = .armed 300 ∧ q.reached 300 = true
          ∧ (q.table[(1 : Fin 64)].state = .live ∨ q.table[(1 : Fin 64)].state = .awaiting)
          ∧ q.table[(1 : Fin 64)].lapses ≤ 255 ∧ numberDef.lapseAlarm = true ∧ hasRoom q)
      ∧ ((atUs 1000000 running).table[(2 : Fin 64)].definition = some aspectDef
        ∧ (atUs 1000000 running).reached 1000 = true ∧ aspectDef.lapseAlarm = false
        ∧ (atUs 1000000 running).table[(2 : Fin 64)].degraded = false)
      ∧ (after (.monitorExpiry 1) (atUs 300000 live)).lp0.queue.head?
        = some ⟨0x51, [1, 0, 0, 255, 1, 1, 0, 0, 1, 44]⟩
      ∧ (after (.monitorExpiry 1) (atUs 299999 live)).table[1].state = .live
      ∧ (after (.monitorExpiry 1) (atUs 300000 running)).faults.entries.map (fun e => (e.code, e.origin, e.parameter))
        = [(1008, 65, some 1)] := by decide +kernel

/-- Slot 0 in a state with a value. -/
def slotZero (st : SlotState) (value : Option Word) : State :=
  { running with table := running.table.set 0 { Slot.displayedSpeed with state := st, value } }

theorem witness_SpeedWriteActsOnSlotZero :
    (4000 ≤ 4000 ∧ (slotZero .lapsed none).table[(0 : Fin 64)].state = .lapsed
      ∧ (slotZero .lapsed none).lp0.queue.length < 8)
      ∧ ((slotZero .live (some 4000)).table[(0 : Fin 64)].state = .live
        ∧ (slotZero .live (some 4000)).table[(0 : Fin 64)].value = some (BitVec.ofNat 16 4000))
      ∧ listSound (slotZero .lapsed none)
      ∧ (slotZero .awaiting none).table[(0 : Fin 64)].state ≠ .live
      ∧ (writeSlotZero none (slotZero .live (some 1))).table[(0 : Fin 64)].state = .lapsed := by decide +kernel

/-- A state whose band looks at displayed and permitted speed, slot 1 the permitted speed and the lamp at position 7. -/
def banded (band : BandState) (speed permitted : Word) : State :=
  { running with
    band
    general := { General.default with permittedSlot := some 1, bandLamp := some (7, .two), bandChime := true }
    table := (live.table.set 1 { live.table[1] with value := some permitted }).set 0
      { Slot.displayedSpeed with state := .live, value := some speed } }

theorem witness_BandEvaluationFollowsTable :
    (∀ q ∈ [(BandState.normal, 1031, 1000, BandState.warning), (.normal, 1030, 1000, .normal),
          (.warning, 1011, 1000, .warning), (.warning, 1010, 1000, .normal), (.unknown, 1031, 1000, .warning)],
        bandAfter q.1 (banded q.1 q.2.1 q.2.2.1).bandSpeed (banded q.1 q.2.1 q.2.2.1).permittedSpeed 30 20 = q.2.2.2
          ∧ (evaluateBand (banded q.1 q.2.1 q.2.2.1)).band = q.2.2.2)
      ∧ (banded .normal 1031 1000).general.bandLamp = some (7, .two)
      ∧ (banded .normal 1031 1000).lamps.output = .lit ∧ (banded .normal 1031 1000).chime.sounding = none
      ∧ (evaluateBand (banded .normal 1031 1000)).lamps.positions[7].requested = .fast .two := by decide +kernel

/-! ## Aspects and changeover -/

/-- DEFINE ASPECT with one setting. -/
def mapRecord (system code remove : Byte) : List Byte := [system, code, remove, 15, 1, 23, 2, 3]

/-- A full aspect map. -/
def fullMap : State :=
  { configuring with aspects := (List.range 192).map (fun n => ⟨n / 48, n % 48, 0, []⟩) }

theorem witness_DefineAspectActsOnMap :
    (∀ p ∈ [mapRecord 4 63 0, mapRecord 0 0 0, mapRecord 0 0 1, mapRecord 4 63 1],
        received .defineAspect .lp0 p fullMap ∧ passes (defineAspectChecks p))
      ∧ configurationSound configuring ∧ configurationSound fullMap ∧ fullMap.aspects.length = 192
      ∧ (fullMap.aspects.any (fun e => e.system == 0 && e.code == 0)) = true
      ∧ (fullMap.aspects.any (fun e => e.system == 4 && e.code == 63)) = false
      ∧ (byteAt (mapRecord 0 0 0) 2 = 0 ∧ byteAt (mapRecord 0 0 1) 2 = 1)
      ∧ (after (.defineAspect .lp0 (mapRecord 4 63 0)) configuring).aspects = [⟨4, 63, 15, [⟨23, .two, .attention⟩]⟩]
      ∧ (after (.defineAspect .lp0 (mapRecord 4 63 0)) fullMap).lp0.queue = [⟨0x41, [0x11, 13, 2, 0, 0]⟩]
      ∧ (after (.defineAspect .lp0 (mapRecord 4 63 1)) fullMap).lp0.queue = [⟨0x41, [0x11, 14, 2, 0, 0]⟩]
      ∧ (after (.defineAspect .lp0 (mapRecord 0 0 1)) fullMap).aspects.length = 191 := by decide +kernel

/-- RUNNING with no aspect slot defined. -/
def noAspects : State := { running with table := running.table.set 2 Slot.undefined }

theorem witness_ChangeoverTakesAspectSlotsToTransit :
    (∀ p ∈ [[1, 0], [4, 15], [2, 0xff]],
        received .changeover .lp0 p running ∧ 1 ≤ (byteAt p 0).toNat ∧ (byteAt p 0).toNat ≤ 4
          ∧ ((byteAt p 1).toNat ≤ 15 ∨ byteAt p 1 = 0xff))
      ∧ (1 = running.changeover.active ∧ 4 ≠ running.changeover.active)
      ∧ running.table[(2 : Fin 64)].isAspect = true
      ∧ (∀ i : Fin 64, noAspects.table[i].isAspect = false ∧ noAspects.table[i].state ≠ .transit)
      ∧ (after (.changeover .lp0 [4, 15]) running).changeover = ⟨4, some ⟨1, 0, 20000⟩, false⟩
      ∧ (after (.changeover .lp0 [4, 15]) running).table[2].state = .transit
      ∧ (after (.changeover .lp0 [4, 15]) running).lp0.queue
        = [⟨0x40, [0x26]⟩, ⟨0x52, [0, 1, 4, 0, 0, 0, 0, 1, 0, 0, 0, 0, 0]⟩]
      ∧ (after (.changeover .lp0 [2, 0xff]) noAspects).changeover = ⟨2, none, false⟩ := by decide +kernel

/-- Slot 2 LIVE and DEGRADED with its fault 1004. -/
def degradedTwo : State :=
  let s := internalRaise 1004 66 none (updated (updateRecord 1 0 [2, 0, 5]) running)
  { s with table := s.table.set 2 { s.table[2] with degraded := true }, lp0 := Port.cleared }

/-- A changeover during another reports SUPERSEDED first, and clears faults 1003 and 1004. -/
theorem witness_ChangeoverSupersedesAndClears :
    (inTransit.changeover.transit = some ⟨2, 0, 5000⟩ ∧ inTransit.lp0.queue.length < 7
        ∧ (after (.changeover .lp0 [4, 0]) inTransit).lp0.queue
          = [⟨0x40, [0x26]⟩, changeoverFrame 3 2 1 0 1 0 0, changeoverFrame 0 1 4 0 1 0 0])
      ∧ (listSound degradedTwo ∧ degradedTwo.table[(2 : Fin 64)].degraded = true
        ∧ received .changeover .lp0 [4, 0] degradedTwo ∧ degradedTwo.faults.entries.length = 1
        ∧ (after (.changeover .lp0 [4, 0]) degradedTwo).lamps.positions[0].requested = .off)
      ∧ ((0 : Fin 24).val ∈ groupOf running.table[(2 : Fin 64)]
        ∧ (∀ j : Fin 64, j ≠ 2 → (0 : Fin 24).val ∉ groupOf running.table[j])
        ∧ ∀ i : Fin 64, (1 : Fin 24).val ∉ groupOf running.table[i])
      ∧ received .changeover .lp0 [4, 0] incompleteMarked := by decide +kernel

theorem witness_ChangeoverWindowExpiryLapsesTransit :
    let s := atUs 5000000 inTransit
    tableSound s ∧ listSound s ∧ s.phase = .running ∧ s.changeover.transit = some ⟨2, 0, 5000⟩
      ∧ s.reached 5000 = true ∧ s.table[(2 : Fin 64)].state = .transit ∧ hasRoom s
      ∧ (∀ i : Fin 64, s.table[i].state = .transit →
          (s.table[i].definition.any (fun d => d.lapseAlarm)) = false)
      ∧ (after .changeoverWindowExpiry s).table[2].state = .lapsed
      ∧ (after .changeoverWindowExpiry s).faults.entries.map (fun e => (e.code, e.parameter)) = [(1003, some 1)] := by
  decide +kernel

/-! ## Speed measurement -/

/-- A wheel channel whose pair last taken is known. -/
def wheelAt (pair : Bool × Bool) : Wheel := { Wheel.cleared with lastPair := some pair, errors := 255 }

/-- RUNNING with channel A at a pair. -/
def rolling (pair : Bool × Bool) : State := { running with speed := { running.speed with wheelA := wheelAt pair } }

theorem witness_WheelPhaseChangeDecodesPair :
    ((wheelAt (false, false)).errors ≤ 255 ∧ configuring.phase ≠ .running)
      ∧ ((rolling (false, false)).phase = .running ∧ (rolling (false, false)).inReset = false
        ∧ ((rolling (false, false)).wheel .a).lastPair = some (false, false))
      ∧ ((true, false) = forwardOf (false, false) ∧ forwardOf (false, true) = (false, false)
        ∧ (true, true) = forwardOf (forwardOf (false, false)))
      ∧ (after (.wheelPhaseChange .a true false) (rolling (false, false))).speed.wheelA.steps = 1
      ∧ (after (.wheelPhaseChange .a false true) (rolling (false, false))).speed.wheelA.steps = -1
      ∧ (after (.wheelPhaseChange .a true true) (rolling (false, false))).speed.sticky = 0x0008
      ∧ (after (.wheelPhaseChange .a true true) (rolling (false, false))).speed.wheelA.errors = 255
      ∧ (after (.wheelPhaseChange .b true true) configuring).wheelPins.b = (true, true) := by decide +kernel

/-- The end of the first window, 200 ms after START, with two wheel channels. -/
def windowAt (a b : Wheel) : State := atUs 200000 { running with speed := { running.speed with wheelA := a, wheelB := b } }

/-- A channel with steps in its window and a previous speed. -/
def stepped (steps : Int) (previous : Option Nat) : Wheel := { Wheel.cleared with steps, stepFlag := true, previous }

theorem witness_WindowEndClosesBothWindows :
    windowEndsNow (windowAt (stepped 33 none) (stepped 33 none)) 200
      ∧ (after .windowEnd (windowAt (stepped 33 none) (stepped 33 none))).speed.windowEnd = some 400
      ∧ (after .windowEnd (atUs 199999 (windowAt (stepped 33 none) (stepped 33 none)))).speed.windowEnd = some 200 := by
  decide +kernel

/-- With a SPEED REPORT every so many windows. -/
def reportingEvery (n : Nat) (s : State) : State :=
  { s with speed := { s.speed with settings := { s.speed.settings with reportInterval := n } } }

/-- The window end that is due a SPEED REPORT queues it last; at intervals 0 and 2 the first window queues none. -/
theorem witness_WindowEndReports :
    let s := windowAt (stepped 33 none) (stepped 33 none)
    let one := reportingEvery 1 s
    (windowEndsNow one 200 ∧ one.speed.settings.reportInterval ≠ 0
        ∧ (one.speed.windowCount + 1) % one.speed.settings.reportInterval = 0
        ∧ (after .windowEnd one).lp0.queue.getLast? = some (speedReportFrame one (after .windowEnd one)))
      ∧ (∀ n ∈ [0, 2], (reportingEvery n s).speed.settings.reportInterval = 0
          ∨ ((reportingEvery n s).speed.windowCount + 1) % (reportingEvery n s).speed.settings.reportInterval ≠ 0)
      ∧ (∀ n ∈ [0, 2], (after .windowEnd (reportingEvery n s)).lp0.queue.all (fun f => f.kind != 0x54)) := by
  decide +kernel

theorem witness_MeasuredSpeedIsNearestToExact :
    let s := windowAt (stepped 8 none) (stepped (-8) none)
    let slow := { stepped 7 none with lastStep := some 150000, lastInterval := some 60000, lastDirection := some .backward }
    (0 < s.speed.settings.windowLength ∧ 0 < s.speed.settings.pulses)
      ∧ (8 ≤ (stepped 8 none).steps.natAbs ∧ s.measured (stepped 8 none) 0 = (12, .forward) ∧ 12 < 4000
        ∧ s.measured (stepped (-8) none) 0 = (12, .backward))
      ∧ s.measured (stepped 32767 none) 0 = (4000, .forward)
      ∧ (slow.steps.natAbs < 8 ∧ slow.lastStep = some 150000 ∧ slow.lastInterval = some 60000
        ∧ s.elapsed 150000 ≤ s.speed.settings.standstillTime * 1000 ∧ 0 < max 60000 (s.elapsed 150000)
        ∧ s.measured slow 0 = (5, .backward))
      ∧ s.measured { slow with lastInterval := some 1, lastStep := some 200000 } 0 = (4000, .backward)
      ∧ (s.measured (stepped 7 none) 0 = (0, .unknown) ∧ (stepped 7 none).lastStep = none)
      ∧ ((atUs 2150001 s).speed.settings.standstillTime * 1000 < (atUs 2150001 s).elapsed 150000
        ∧ (atUs 2150001 s).measured slow 0 = (0, .unknown)) := by decide +kernel

/-- Channel A without a step, channel B at 51 (5.1 km/h), A having been SILENT in four windows. -/
def silent : State := windowAt { Wheel.cleared with silentRun := 4 } (stepped 33 none)

theorem witness_WindowEndJudgesChannels :
    (windowEndsNow silent 200 ∧ (silent.wheel .a).silentRun ≤ 5 ∧ (silent.wheel .a).errors < 4
        ∧ (silent.wheel .a).stepFlag = false ∧ (silent.wheel .b).stepFlag = true
        ∧ (silent.wheel .a).silentRun = 4 ∧ silent.faults.entries.length ≤ 40)
      ∧ hasResults (after .windowEnd silent) .a 0 .silent .unknown
      ∧ hasResults (after .windowEnd silent) .b 51 .good .forward
      ∧ (after .windowEnd silent).speed.wheelA.lost = true
      ∧ (after .windowEnd silent).faults.entries.map (fun e => (e.code, e.origin)) = [(1001, 170)]
      ∧ (4 ≤ { stepped 33 none with errors := 4 }.errors
        ∧ hasResults (after .windowEnd (windowAt { stepped 33 none with errors := 4 } (stepped 33 none))) .a 51 .failed
            .forward)
      ∧ (exceedsAccel running.speed.settings 51 45 ∧ ¬ exceedsAccel running.speed.settings 51 46
        ∧ hasResults (after .windowEnd (windowAt (stepped 33 (some 45)) (stepped 33 (some 57)))) .a 51 .slip .forward
        ∧ hasResults (after .windowEnd (windowAt (stepped 33 (some 45)) (stepped 33 (some 57)))) .b 51 .slide .forward
        ∧ hasResults (after .windowEnd (windowAt (stepped 33 (some 46)) (stepped 33 (some 56)))) .b 51 .good .forward) := by
  unfold hasResults; decide +kernel

/-- The list full of class B entries, one of them for a code and origin. -/
def withFullList (code origin : Nat) (s : State) : State :=
  { s with faults := { s.faults with entries :=
      { entryOf code .activeUnacked with origin } :: (List.range 47).map (fun n => entryOf n .activeUnacked) } }

/-- Channel A lost and stepping again, its fault 1001 in a full list. -/
def stepsAgain : State :=
  withFullList 1001 170 (windowAt { stepped 33 none with lost := true } (stepped 33 none))

/-- Whatever the list holds, a window end raises and clears its faults (R59, R62). -/
theorem witness_WindowEndActsOnAnyList :
    (listSound silent ∧ tableSound silent ∧ windowEndsNow stepsAgain 200 ∧ listSound stepsAgain ∧ tableSound stepsAgain)
      ∧ ((stepsAgain.wheel .a).stepFlag = true ∧ (stepsAgain.wheel .a).lost = true
        ∧ (after .windowEnd stepsAgain).speed.wheelA.status = some .good
        ∧ (after .windowEnd stepsAgain).speed.wheelA.lost = false
        ∧ (after .windowEnd stepsAgain).faults.entries.head?.map (fun e => e.state) = some .clearedUnacked)
      ∧ (listSound (withFullList 998 0 silent)
        ∧ (after .windowEnd (withFullList 998 0 silent)).faults.dropped = 1) := by
  refine ⟨⟨?_, ?_, ?_, ?_, ?_⟩, ?_, ?_, ?_⟩ <;> decide +kernel

/-- Both channels GOOD at 0 and 51, with a run of mismatches in AGREE. -/
def differing (run : Nat) : State :=
  let s := windowAt (stepped 0 none) (stepped 33 none)
  { s with speed := { s.speed with disagreement := ⟨.agree, run, 0⟩ } }

theorem witness_WindowEndComparesChannels :
    (windowEndsNow (differing 2) 200 ∧ runsBelow (differing 2).speed.disagreement (differing 2).speed.settings.confirmCount
        ∧ (differing 2).faults.entries.length ≤ 40)
      ∧ hasResults (after .windowEnd (differing 2)) .a 0 .good .unknown
      ∧ hasResults (after .windowEnd (differing 2)) .b 51 .good .forward
      ∧ (after .windowEnd (differing 2)).speed.disagreement = ⟨.disagree, 0, 0⟩
      ∧ (after .windowEnd (differing 1)).speed.disagreement = ⟨.agree, 2, 0⟩
      ∧ (after .windowEnd (differing 2)).faults.entries.map (fun e => (e.code, e.origin, e.parameter))
        = [(1000, 172, some 51)]
      ∧ (windowEndsNow silent 200 ∧ runsBelow silent.speed.disagreement silent.speed.settings.confirmCount
        ∧ (after .windowEnd silent).speed.wheelA.status ≠ some .good) := by unfold hasResults; decide +kernel

/-- Both channels GOOD at 51 in DISAGREE, one agreement short of AGREE, fault 1000 in a full list. -/
def agreeing : State :=
  let s := windowAt (stepped 33 none) (stepped 33 none)
  withFullList 1000 172 { s with speed := { s.speed with disagreement := ⟨.disagree, 0, 2⟩ } }

theorem witness_WindowEndComparesOnAnyList :
    (windowEndsNow agreeing 200 ∧ listSound agreeing ∧ tableSound agreeing ∧ agreeing.speed.disagreement.accord = .disagree
        ∧ runsBelow agreeing.speed.disagreement agreeing.speed.settings.confirmCount
        ∧ (after .windowEnd agreeing).speed.disagreement.accord = .agree
        ∧ (after .windowEnd agreeing).faults.entries.head?.map (fun e => e.state) = some .clearedUnacked)
      ∧ (listSound (withFullList 998 0 (differing 2)) ∧ tableSound (differing 2)
        ∧ (after .windowEnd (withFullList 998 0 (differing 2))).faults.entries.head?.map (fun e => (e.code, e.origin))
          = some (1000, 172)) := by
  refine ⟨⟨?_, ?_, ?_, ?_⟩, ?_, ?_, ?_⟩ <;> decide +kernel

/-- Both channels FAILED, with a reference record and a displayed speed in HOLD. -/
def failed (reference : Option Reference) (displayed : Option Nat) (held : Nat) : State :=
  let bad := { stepped 33 none with errors := 4 }
  let s := windowAt bad bad
  { s with speed := { s.speed with reference, displayed, holdCount := held } }

/-- What a window end selects and shows. -/
def shownBy (s : State) : Selection × Option Nat :=
  ((after .windowEnd s).speed.selection, (after .windowEnd s).speed.displayed)

theorem witness_SelectionFollowsTables :
    (∀ s ∈ [windowAt (stepped 33 none) (stepped 33 none), failed none (some 7) 4, failed none (some 7) 5],
        windowEndsNow s 200 ∧ tableSound s ∧ runsBelow s.speed.referenceCheck s.speed.settings.confirmCount)
      ∧ shownBy (windowAt (stepped 33 none) (stepped 34 none)) = (.dual, some 52)
      ∧ shownBy (windowAt { stepped 33 none with errors := 4 } (stepped 33 none)) = (.b, some 51)
      ∧ shownBy (failed (some ⟨1, 4000, .degraded, 0, false⟩) none 0) = (.reference, some 4000)
      ∧ shownBy (failed none (some 7) 4) = (.hold, some 7) ∧ shownBy (failed none (some 7) 5) = (.none, none)
      ∧ (after .windowEnd (windowAt (stepped 0 none) (stepped 0 none))).speed.lowRun = 1 := by decide +kernel

/-- Channels that show 5.1 and 5.2 km/h beside a reference record, with a comparison against it under way. -/
def compared (reference : Nat) (check : Agreement) : State :=
  let s := windowAt (stepped 33 none) (stepped 34 none)
  { s with speed := { s.speed with reference := some ⟨1, reference, .good, 0, false⟩, referenceCheck := check } }

theorem witness_ReferenceDisagreementRaisedAndCleared :
    (∀ s ∈ [compared 4000 ⟨.agree, 2, 0⟩, compared 52 ⟨.disagree, 0, 2⟩], windowEndsNow s 200 ∧ tableSound s ∧ listSound s
        ∧ s.faults.entries.length ≤ 40 ∧ runsBelow s.speed.referenceCheck s.speed.settings.confirmCount)
      ∧ (after .windowEnd (compared 4000 ⟨.agree, 2, 0⟩)).speed.sticky.getLsbD 9 = true
      ∧ (after .windowEnd (compared 4000 ⟨.agree, 2, 0⟩)).speed.referenceCheck.accord = .disagree
      ∧ (after .windowEnd (compared 4000 ⟨.agree, 2, 0⟩)).faults.entries.map (fun e => (e.code, e.origin, e.parameter))
        = [(1002, 172, some 3948)]
      ∧ (after .windowEnd (compared 52 ⟨.disagree, 0, 2⟩)).speed.referenceCheck.accord = .agree :=
  ⟨by decide +kernel, by decide +kernel⟩

/-- STANDSTILL comes at the third low window and goes at 1.0 km/h. -/
theorem test_standstill :
    standstillAfter (some 4) 2 false = (3, true) ∧ standstillAfter (some 4) 1 false = (2, false)
      ∧ standstillAfter (some 5) 3 true = (0, true) ∧ standstillAfter (some 10) 0 true = (0, false)
      ∧ standstillAfter none 3 true = (0, false) := by decide

/-- SET SPEED PARAMETERS with every field at its upper limit. -/
def speedRecord : List Byte := [0x01, 0xf4, 0x13, 0x88, 50, 50, 20, 15, 10, 15, 1, 10, 0x05, 0x14, 0x01, 0x90]

/-- RUNNING at standstill. -/
def standing : State := { running with faults := { running.faults with conditions := 0x1000 } }

theorem witness_SpeedUnitOrdersTakeEffect :
    (received .setSpeedParameters .lp0 speedRecord configuring ∧ passes (speedParameterChecks speedRecord)
        ∧ (after (.setSpeedParameters .lp0 speedRecord) configuring).speed.settings
          = ⟨500, 5000, 50, 50, 20, 15, 10, 15, .withdraw, 10, 1300, 400⟩)
      ∧ (received .setWheel .lp0 [0x03, 0x20, 0, 20] configuring ∧ 800 ≤ (wordAt [0x03, 0x20, 0, 20] 0).toNat
        ∧ (wordAt [0x03, 0x20, 0, 20] 2).toNat = 20 ∧ configuring.phase = .configuring
        ∧ received .setWheel .lp0 [0x05, 0x14, 0x01, 0x90] running ∧ received .setWheel .lp0 [0x05, 0x14, 0x01, 0x90] standing
        ∧ standing.phase = .running ∧ standing.faults.conditions.getLsbD 12 = true
        ∧ running.faults.conditions.getLsbD 12 = false)
      ∧ (after (.setWheel .lp0 [0x05, 0x14, 0x01, 0x90]) standing).speed.pendingWheel = some (1300, 400)
      ∧ (after (.setWheel .lp0 [0x05, 0x14, 0x01, 0x90]) running).lp0.queue = [⟨0x41, [0x28, 16, 0, 0, 0]⟩]
      ∧ (received .referenceSpeed .lp1 [4, 0x0f, 0xa0, 1] running ∧ sourceFits .lp1 (byteAt [4, 0x0f, 0xa0, 1] 0).toNat
        ∧ (wordAt [4, 0x0f, 0xa0, 1] 1).toNat ≤ 4000 ∧ (byteAt [4, 0x0f, 0xa0, 1] 3).toNat ≤ 1)
      ∧ (received .clearSpeedFlags .lp0 [1, 10] running ∧ (∀ b ∈ ([1, 10] : List Byte), 1 ≤ b.toNat ∧ b.toNat ≤ 10))
      ∧ (after (.referenceSpeed .lp1 [4, 0x0f, 0xa0, 1]) running).speed.reference = some ⟨4, 4000, .degraded, 0, false⟩
      ∧ (after (.clearSpeedFlags .lp0 [1, 10])
          { running with speed := { running.speed with sticky := 0x03ff } }).speed.sticky = 0x01fe := by decide +kernel

/-- SPEED REPORT has the 33 payload bytes of R160. -/
theorem test_speedReport_length :
    ((after .windowEnd { silent with speed := { silent.speed with settings := { silent.speed.settings with
      reportInterval := 1 } } }).lp0.queue.map (fun f => (f.kind, f.payload.length))).getLast? = some (0x54, 33) := by
  decide +kernel

/-! ## The fault message list -/

/-- DEFINE FAULT of a key as class B, mask and match 1, CONTINUOUS, text 4095. -/
def faultRecord (high low width remove : Byte) : List Byte := [high, low, width, remove, 1, 0, 1, 0, 1, 3, 0x0f, 0xff]

/-- A full host catalogue. -/
def fullCatalogue : State :=
  { configuring with faults := { configuring.faults with
      catalogue := (List.range 256).map (fun n => ⟨n, 0, ⟨.c, 0, 0, .none, 0⟩⟩) } }

theorem witness_DefineFaultActsOnCatalogue :
    (∀ p ∈ [faultRecord 0 0 0 0, faultRecord 3 0xf2 0 0, faultRecord 0 0 0 1, faultRecord 3 0xf2 0 1, faultRecord 0x03 0x7f 7 0],
        received .defineFault .lp0 p fullCatalogue ∧ passes (defineFaultChecks p))
      ∧ configurationSound configuring ∧ configurationSound fullCatalogue
      ∧ fullCatalogue.faults.catalogue.length = 256
      ∧ fullCatalogue.faults.catalogue.any (fun e => e.base == 0 && e.width == 0) = true
      ∧ fullCatalogue.faults.catalogue.any (fun e => e.base == 1010 && e.width == 0) = false
      ∧ (after (.defineFault .lp0 (faultRecord 3 0x7f 7 0)) configuring).faults.catalogue
        = [⟨768, 7, ⟨.b, 1, 1, .continuous, 4095⟩⟩]
      ∧ (after (.defineFault .lp0 (faultRecord 3 0xf2 0 0)) fullCatalogue).lp0.queue = [⟨0x41, [0x12, 13, 2, 0, 0]⟩]
      ∧ (after (.defineFault .lp0 (faultRecord 3 0xf2 0 1)) fullCatalogue).lp0.queue = [⟨0x41, [0x12, 14, 2, 0, 0]⟩]
      ∧ (after (.defineFault .lp0 (faultRecord 0 0 0 1)) fullCatalogue).faults.catalogue.length = 255 := by
  decide +kernel

/-- A catalogue with an exact entry and two ranges around it. -/
def layered : State :=
  { running with faults := { running.faults with catalogue :=
      [⟨768, 7, ⟨.a, 0, 0, .triple, 7⟩⟩, ⟨768, 1, ⟨.b, 0, 0, .single, 1⟩⟩, ⟨769, 0, ⟨.c, 0, 0, .none, 9⟩⟩] } }

theorem witness_TreatmentFollowsCatalogueSteps :
    configurationSound layered
      ∧ (⟨769, 0, ⟨.c, 0, 0, .none, 9⟩⟩ ∈ layered.faults.catalogue ∧ treatmentOf layered.faults.catalogue 769 = ⟨.c, 0, 0, .none, 9⟩)
      ∧ ((∀ e ∈ layered.faults.catalogue, ¬ (e.width = 0 ∧ e.base = 768))
        ∧ ⟨768, 1, ⟨.b, 0, 0, .single, 1⟩⟩ ∈ layered.faults.catalogue ∧ coversCode ⟨768, 1, ⟨.b, 0, 0, .single, 1⟩⟩ 768
        ∧ (∀ f ∈ layered.faults.catalogue, coversCode f 768 → 1 ≤ f.width)
        ∧ treatmentOf layered.faults.catalogue 895 = ⟨.a, 0, 0, .triple, 7⟩)
      ∧ ((∀ code ∈ [999, 1000, 1010, 1011], ∀ e ∈ layered.faults.catalogue, ¬ coversCode e code)
        ∧ treatmentOf layered.faults.catalogue 1000 = ⟨.a, 0, 0, .continuous, 1000⟩
        ∧ treatmentOf layered.faults.catalogue 999 = ⟨.c, 0, 0, .none, 0⟩) := by decide +kernel

/-- RUNNING with entries, and class A for code 999 in the catalogue. -/
def listing (entries : List Entry) : State :=
  { running with faults := { running.faults with
      catalogue := [⟨999, 0, ⟨.a, 0, 0, .continuous, 0⟩⟩], entries, dropped := 65535 } }

/-- A full list of class B entries, the one of code 30 CLEARED-UNACKED. -/
def fullList : State :=
  listing ((List.range 48).map (fun n => entryOf n (if n = 30 then .clearedUnacked else .activeUnacked)))

theorem witness_RaiseFaultTakesItsCase :
    (∀ s ∈ [listing [], fullList], listSound s ∧ ∀ p ∈ [[0x03, 0xe7, 63], [0x03, 0xe6, 0, 0xff, 0xff], [0, 30, 0]],
        received .raiseFault .lp1 p s ∧ (wordAt p 0).toNat < 1000 ∧ (byteAt p 2).toNat < 64)
      ∧ ¬ notHeld fullList 30 0
      ∧ (notHeld (listing []) 998 0 ∧ (listing []).faults.entries.length < 48)
      ∧ (notHeld fullList 999 63 ∧ fullList.faults.entries.length = 48
        ∧ ∃ e ∈ fullList.faults.entries, (createdEntry fullList 999 63 none).treatment.cls.code < e.treatment.cls.code)
      ∧ (notHeld fullList 998 0 ∧ ∀ e ∈ fullList.faults.entries,
          e.treatment.cls.code ≤ (createdEntry fullList 998 0 (some 0xffff)).treatment.cls.code) := by decide +kernel

/-- The four cases: re-raised in place, entered, entered after an eviction of the CLEARED-UNACKED entry, dropped. -/
theorem test_raiseFault :
    ((after (.raiseFault .lp0 [0, 30, 0]) fullList).faults.entries.map (fun e => (e.code, e.state))).contains
        (30, .activeUnacked) = true
      ∧ (after (.raiseFault .lp0 [0x03, 0xe7, 63]) fullList).faults.entries.map (fun e => e.code)
        = 999 :: (List.range 48).eraseP (· == 30)
      ∧ (after (.raiseFault .lp0 [0x03, 0xe6, 0]) fullList).faults.dropped = 65535
      ∧ (after (.raiseFault .lp0 [0x03, 0xe6, 0]) fullList).lp0.queue = [⟨0x41, [0x22, 15, 0, 0, 0]⟩]
      ∧ (after (.raiseFault .lp0 [0x03, 0xe7, 63]) (listing [])).chime.continuousHeld = true
      ∧ (after (.raiseFault .lp0 [0x03, 0xe7, 63]) (listing [])).lp0.queue.map (fun f => (f.kind, f.payload.length))
        = [(0x40, 1), (0x53, 20)] := by decide +kernel

/-- Re-raising a class A entry that was CLEARED-UNACKED and visible returns the cursor to page 0 and requests its chime. -/
theorem witness_RaiseFaultReactivates :
    let e : Entry := { entryOf 999 .clearedUnacked with treatment := ⟨.a, 0, 0, .triple, 0⟩ }
    let s := { listing (e :: fullList.faults.entries.take 4) with lp1 := running.lp1 }
    let paged := { s with faults := { s.faults with cursor := 1 } }
    listSound paged ∧ received .raiseFault .lp1 [0x03, 0xe7, 0] paged ∧ ¬ notHeld paged 999 0
      ∧ (e ∈ paged.faults.entries ∧ isEntryOf e 999 0 ∧ e.state = .clearedUnacked ∧ e.treatment.cls = .a ∧ e.visible = true)
      ∧ oneShotOf (reraisedEntry e none paged.now) = some .triple
      ∧ (after (.raiseFault .lp1 [0x03, 0xe7, 0]) paged).faults.cursor = 0
      ∧ (after (.raiseFault .lp1 [0x03, 0xe7, 0]) paged).chime.sounding = some (.triple, 0)
      ∧ (after (.raiseFault .lp1 [0x03, 0xe7, 0]) paged).lp0.queue
        = [faultFrame 1 1 (reraisedEntry e none paged.now) 5 65535] := by decide +kernel

/-- A clear of ALL on a list of each state queues the FAULT REPORTs of what changed, in list order. -/
theorem test_changeReports :
    let s := listing [entryOf 1 .activeUnacked, entryOf 2 .activeAcked, entryOf 3 .clearedUnacked]
    (after (.clearFault .lp0 [0xff, 0xff, 0]) s).lp0.queue
      = ⟨0x40, [0x23]⟩ :: changeReports 3 0 (fun e => clearedEntry e 0) 65535 s.faults.entries 3
      ∧ (changeReports 3 0 (fun e => clearedEntry e 0) 65535 s.faults.entries 3).length = 2 := by decide +kernel

/-- An entry of each state. -/
def three : State := listing [entryOf 1 .activeUnacked, entryOf 2 .activeAcked, entryOf 3 .clearedUnacked]

theorem witness_ClearFaultActsByEntryState :
    (∀ p ∈ [[0, 1, 0], [0xff, 0xff, 0], [0x03, 0xe7, 63], [0xff, 0xff, 63]],
        listSound three ∧ received .clearFault .lp1 p three
          ∧ ((wordAt p 0).toNat < 1000 ∨ (wordAt p 0).toNat = 0xffff) ∧ (byteAt p 2).toNat < 64)
      ∧ (∃ e ∈ three.faults.entries, (e.origin == 0 && e.code == 1) = true)
      ∧ (∀ e ∈ three.faults.entries, (e.origin == 63) = false)
      ∧ (after (.clearFault .lp0 [0xff, 0xff, 0]) three).faults.entries.map (fun e => (e.code, e.state))
        = [(1, .clearedUnacked), (3, .clearedUnacked)]
      ∧ (after (.clearFault .lp0 [0xff, 0xff, 63]) three).lp0.queue = [⟨0x41, [0x23, 14, 0, 0, 0]⟩] := by decide +kernel

theorem witness_AcknowledgeFaultActsByEntryState :
    (∀ p ∈ [[0, 0, 1, 0], [0, 0x03, 0xf2, 0], [1, 0xff, 0xff, 0], [2, 0, 0, 0]],
        listSound three ∧ received .acknowledgeFault .lp0 p three ∧ (byteAt p 0).toNat ≤ 2
          ∧ (byteAt p 0 = 0 → (wordAt p 1).toNat ≤ 1010))
      ∧ (∃ e ∈ three.faults.entries, (e.code == 1 && e.origin == 0) = true)
      ∧ (∀ e ∈ three.faults.entries, (e.code == 1010 && e.origin == 0) = false)
      ∧ (after (.acknowledgeFault .lp0 [2, 0, 0, 0]) three).faults.entries.map (fun e => (e.code, e.state))
        = [(1, .activeAcked), (2, .activeAcked)]
      ∧ (after (.acknowledgeFault .lp0 [0, 0x03, 0xf2, 0]) three).lp0.queue = [⟨0x41, [0x24, 14, 1, 0, 0]⟩] := by
  decide +kernel

theorem witness_SetConditionsDecidesVisibility :
    listSound three ∧ received .setConditions .lp0 [0xff, 0xff] three ∧ received .setConditions .lp0 [0, 0] three
      ∧ (three.faults.conditions &&& 0xf000) ||| (wordAt [0, 0] 0 &&& 0x0fff) = three.faults.conditions
      ∧ (after (.setConditions .lp0 [0xff, 0xff]) three).faults.conditions = 0x0fff := by decide +kernel

/-- An entry that becomes visible: the cursor returns to its page and the demand comes in force. -/
theorem test_setConditions_appear :
    let hidden : Entry := ⟨7, 0, ⟨.a, 1, 1, .continuous, 0⟩, .activeUnacked, 1, 0, 0, none, false⟩
    let s := after (.setConditions .lp0 [0, 1]) { listing [hidden] with faults := { (listing [hidden]).faults with cursor := 0 } }
    s.faults.entries.map (fun e => e.visible) = [true] ∧ s.faults.demand = true ∧ s.chime.continuousHeld = true := by
  decide +kernel

/-! ## The lamp field -/

/-- Pair 0 BICOLOUR, driving a colour or switching; position 0 in an active setting. -/
def bicolour (driven : Option Colour) (switching : Option Nat) (active : Active) : State :=
  { running with lamps := { running.lamps with
      pairs := running.lamps.pairs.set 0 { PairSettings.default with mode := .bicolour }
      drives := running.lamps.drives.set 0 ⟨driven, switching⟩
      positions := running.lamps.positions.set 0 ⟨.off, none, active⟩ } }

theorem witness_ChannelLitExactlyByItsConditions :
    channelBelongs running 0 0 0 ⟨63, 16, 20, 600⟩ ∧ channelBelongs running 23 11 23 ⟨63, 16, 20, 600⟩
      ∧ channelBelongs (bicolour (some .two) none (.steady .two)) 1 0 0 ⟨63, 16, 20, 600⟩
      ∧ (bicolour (some .two) none (.steady .two)).lamps.pairs[(0 : Fin 12)].mode = .bicolour
      ∧ (bicolour (some .two) none (.steady .two)).drive 1 = 63
      ∧ (bicolour (some .two) none (.steady .two)).drive 0 = 0
      ∧ (bicolour none (some 500) (.steady .two)).drive 1 = 0 := by decide +kernel

/-- A FAST setting is lit in the on-phase alone. -/
theorem test_isLit_flashing :
    let s := { running with lamps := { running.lamps with positions := running.lamps.positions.set 5 ⟨.off, none, .fast .one⟩ } }
    (atUs 249999 s).isLit 5 = true ∧ (atUs 250000 s).isLit 5 = false := by decide +kernel

/-- SET LAMP CHANNEL, SET KEY, SET GENERAL and SET LINK with fields at their limits. -/
def lampRecord : List Byte := [11, 1, 15, 63, 0, 0x03, 0xe7, 0x03, 0xe8, 0, 63, 0, 0, 0, 1]
def keyRecord : List Byte := [5, 32, 4, 0x03, 0xe8, 0x03, 0xe7, 60, 3]
def generalRecord : List Byte := [255, 15, 0, 1, 0x0f, 0xa0, 4, 63, 100, 50, 23, 2, 1, 30]
def linkRecord (link : Byte) : List Byte := [link, 4, 2, 2, 20, 0]

/-- CONFIGURING with a frame in transmission on LP1. -/
def quietUntilSent : State := { configuring with lp1 := queued [⟨0x57, []⟩] }

theorem witness_SettingOrdersReplaceTheirSettings :
    (received .setLampChannel .lp0 lampRecord configuring ∧ passes (setLampChannelChecks lampRecord)
        ∧ (byteAt lampRecord 0).toNat = (11 : Fin 12).val
        ∧ (after (.setLampChannel .lp0 lampRecord) configuring).lamps.pairs[11]
          = ⟨.bicolour, 15, ⟨63, 0, 999, 1000⟩, ⟨0, 63, 0, 1⟩⟩)
      ∧ (∀ p ∈ [[0, 15, 0], [1, 0, 15]], received .setCadence .lp0 p running ∧ (byteAt p 0).toNat ≤ 1
        ∧ (byteAt p 1).toNat ≤ 15 ∧ (byteAt p 2).toNat ≤ 15)
      ∧ (after (.setCadence .lp0 [1, 0, 15]) running).lamps.fastGenerator = ⟨0, 15, some ⟨0, 250000, 250000⟩⟩
      ∧ (received .setKey .lp0 keyRecord configuring ∧ passes (setKeyChecks keyRecord)
        ∧ (byteAt keyRecord 0).toNat = (5 : Fin 6).val
        ∧ (after (.setKey .lp0 keyRecord) configuring).keys.keys[5].settings = ⟨32, 4, 1000, 999, 60, 3⟩)
      ∧ (received .setGeneral .lp0 generalRecord configuring ∧ passes (setGeneralChecks generalRecord)
        ∧ (after (.setGeneral .lp0 generalRecord) configuring).general
          = ⟨255, 15, false, .reset, 4000, 4, some 63, 100, 50, some (23, .two), true, 30⟩)
      ∧ (∀ p ∈ [linkRecord 0, linkRecord 1], received .setLink .lp0 p configuring ∧ passes (setLinkChecks p))
      ∧ configuring.lp1.queue = []
      ∧ quietUntilSent.lp1.queue ≠ []
      ∧ (after (.setLink .lp0 (linkRecord 0)) configuring).lp0.pendingSettings = some ⟨4, .odd, 2, 20, true⟩
      ∧ (after (.setLink .lp0 (linkRecord 1)) configuring).lp1.settings = ⟨4, .odd, 2, 20, false⟩ := by decide +kernel

/-- RUNNING with an output state and a lamp test. -/
def outputs (o : OutputState) (test : Option LampTest) : State :=
  { running with lamps := { running.lamps with output := o, test }, keys := { running.keys with outputHeld := o } }

/-- A lamp test of source ORDER that ends at 10 s. -/
def aTest : LampTest := ⟨.order, 10000, .one⟩

theorem witness_DimAndLampTestOrders :
    (∀ p ∈ [[0], [1]], received .setDim .lp0 p running ∧ (byteAt p 0).toNat ≤ 1 ∧ received .lampTest .lp0 p running
        ∧ received .lampTest .lp0 p (outputs .dark none) ∧ received .lampTest .lp0 p (outputs .lit (some aTest)))
      ∧ (running.lamps.dim = .day ∧ running.lamps.dim ≠ .night)
      ∧ ((outputs .dark none).lamps.output ≠ .lit ∧ running.lamps.output = .lit ∧ running.lamps.test = none
        ∧ (outputs .lit (some aTest)).lamps.test.isSome)
      ∧ ((outputs .lit (some aTest)).lamps.test = some aTest
        ∧ (atUs 10000000 (outputs .lit (some aTest))).reached aTest.endTime = true)
      ∧ (after (.setDim .lp0 [1]) running).lamps.dim = .night
      ∧ (after (.lampTest .lp0 [1]) running).lamps.test = some aTest
      ∧ (after (.lampTest .lp0 [1]) (outputs .dark none)).lp0.queue = [⟨0x41, [0x2A, 20, 0, 0, 0]⟩]
      ∧ (after (.lampTest .lp0 [0]) (outputs .lit (some aTest))).lp0.queue
        = [⟨0x40, [0x2A]⟩, ⟨0x57, [1, 7, 0, 0, 0, 0, 0, 0, 0, 0, 0]⟩]
      ∧ (after .lampTestLimit (atUs 9999999 (outputs .lit (some aTest)))).lamps.test = some aTest
      ∧ (after .lampTestLimit (atUs 10000000 (outputs .lit (some aTest)))).lamps.test = none := by decide +kernel

/-- Channel 23 in a condition with a last result, position 23 steadily lit, a sample due at 100 ms. -/
def sensed (condition : LampCondition) (last : Option (SampleResult × Nat)) : State :=
  atUs 100000 { running with lamps := { running.lamps with
      positions := running.lamps.positions.set 23 ⟨.steady .one, none, .steady .one⟩
      channels := running.lamps.channels.set 23 ⟨condition, last, some 100000, none⟩ } }

theorem witness_LampResetAndResumeOutputs :
    (received .lampReset .lp0 [23] (sensed .shorted none) ∧ (byteAt [23] 0).toNat = (23 : Fin 24).val
        ∧ listSound (sensed .shorted none) ∧ (sensed .shorted none).lamps.channels[(23 : Fin 24)].condition = .shorted
        ∧ (sensed .shorted none).lp0.queue.length < 7)
      ∧ (received .lampReset .lp0 [0] running ∧ running.lamps.channels[(0 : Fin 24)].condition ≠ .shorted)
      ∧ (received .resumeOutputs .lp0 [] (outputs .resumeWait none)
        ∧ (outputs .resumeWait none).lamps.output = .resumeWait ∧ (outputs .resumeWait none).chime.continuousHeld = false
        ∧ received .resumeOutputs .lp0 [] running ∧ running.lamps.output ≠ .resumeWait)
      ∧ ((outputs .resumeWait none).setChime ⟨none, .none, true, false⟩).chime.continuousHeld = true
      ∧ (after (.resumeOutputs .lp0 []) ((outputs .resumeWait none).setChime ⟨none, .none, true, false⟩)).chime.sounding
        = some (.continuous, 0)
      ∧ (after (.lampReset .lp0 [23]) (sensed .shorted none)).lamps.channels[23].condition = .normal
      ∧ (after (.resumeOutputs .lp0 []) (outputs .resumeWait none)).lamps.output = .lit
      ∧ (after (.resumeOutputs .lp0 []) running).lp0.queue = [⟨0x41, [0x2C, 19, 0, 0, 0]⟩] := by decide +kernel

/-- A waiting setting and an attention run at a period start. -/
def atPeriod (waiting : Option Setting) (active : Active) (o : OutputState) : State :=
  let s := outputs o (some aTest)
  atUs 1000000 { s with lamps := { s.lamps with positions := s.lamps.positions.set 4 ⟨.off, waiting, active⟩ } }

theorem witness_RequestPeriodStartAndSwitchingEnd :
    (((atPeriod none .off .lit).generator .slow).period = some ⟨0, 500000, 500000⟩
        ∧ (atPeriod none .off .lit).due (plusUs 0 (500000 + 500000)) = true
        ∧ (atUs 999999 (atPeriod none .off .lit)).due (plusUs 0 (500000 + 500000)) = false
        ∧ ((atPeriod none .off .lit).generator .fast).period = some ⟨0, 250000, 250000⟩
        ∧ (atPeriod none .off .lit).due (plusUs 0 (250000 + 250000)) = true)
      ∧ (atPeriod none .off .restorePending).lamps.output = .restorePending
      ∧ (after (.periodStart .slow) (atPeriod (some (.slow .two)) .off .lit)).lamps.positions[4]
        = ⟨.off, none, .slow .two⟩
      ∧ (after (.periodStart .fast) (atPeriod (some (.slow .two)) (.run .one 3 3) .lit)).lamps.positions[4]
        = ⟨.off, some (.slow .two), .steady .one⟩
      ∧ (after (.periodStart .slow) (atPeriod none .off .restorePending)).lamps.output = .lit
      ∧ ((bicolour none (some 500) (.steady .two)).lamps.pairs[(0 : Fin 12)].mode = .bicolour
        ∧ (bicolour none (some 500) (.steady .two)).lamps.drives[(0 : Fin 12)].switching = some 500
        ∧ (atUs 500 (bicolour none (some 500) (.steady .two))).due 500 = true
        ∧ (atUs 499 (bicolour none (some 500) (.steady .two))).due 500 = false)
      ∧ (after (.switchingEnd 0) (atUs 500 (bicolour none (some 500) (.steady .two)))).lamps.drives[0]
        = ⟨some .two, none⟩ := by decide +kernel

/-- A request equal to the requested setting has no effect unless it is ATTENTION; a SLOW or FAST one waits (R107). -/
theorem test_request_taken :
    requestTaken ⟨.slow .one, none, .slow .one⟩ (.slow .one) = ⟨.slow .one, none, .slow .one⟩
      ∧ requestTaken ⟨.attention .one 3, none, .run .one 3 2⟩ (.attention .one 3)
        = ⟨.attention .one 3, some (.attention .one 3), .steady .one⟩
      ∧ (requestLamp 4 (.fast .two) running).lamps.positions[4] = ⟨.fast .two, some (.fast .two), .off⟩
      ∧ (requestLamp 4 .off (requestLamp 4 (.fast .two) running)).lamps.positions[4] = ⟨.off, none, .off⟩ := by
  decide +kernel

theorem witness_LampSampleJudgesChannel :
    (listSound (sensed .normal (some (.low, 0))) ∧ (sensed .normal (some (.low, 0))).sampleDue 23 = true
        ∧ channelBelongs (sensed .normal (some (.low, 0))) 23 11 23 ⟨63, 16, 20, 600⟩ ∧ hasRoom (sensed .normal none))
      ∧ (∀ q ∈ [(19, SampleResult.low), (20, .ok), (600, .ok), (601, .high)], resultOf ⟨63, 16, 20, 600⟩ q.1 = q.2)
      ∧ (after (.lampSample 23 19) (sensed .normal (some (.low, 0)))).lamps.channels[23].condition = .openLamp
      ∧ (after (.lampSample 23 601) (sensed .openLamp (some (.high, 1000)))).lamps.channels[23].condition = .shorted
      ∧ (after (.lampSample 23 20) (sensed .openLamp (some (.ok, 20)))).lamps.channels[23].condition = .normal
      ∧ (after (.lampSample 23 19) (sensed .normal (some (.ok, 0)))).lamps.channels[23].lastResult = some (.low, 19)
      ∧ (after (.lampSample 23 19) (sensed .normal (some (.low, 0)))).faults.entries.map (fun e => (e.code, e.parameter))
        = [(1005, some 19)]
      ∧ (∀ i : Fin 64, noAspects.table[i].isAspect = false) := by decide +kernel

/-- The desk-dark line and the supply, standing since 0. -/
def darkening (line below : Bool) (supply : SupplyState) (o : OutputState) (us : Nat) : State :=
  let s := outputs o none
  atUs us { s with deskDark := ⟨line, 0⟩, supply := ⟨supply, supply == .dip, below, 0⟩
                   lamps := { s.lamps with supply } }

theorem witness_DarknessMovesTheOutputs :
    (∀ s ∈ [darkening true false .normal .lit 10000], s.inReset = false ∧ s.phase ≠ .dormant
        ∧ s.deskDark.asserted ≠ s.faults.conditions.getLsbD 13 ∧ 10000 ≤ s.elapsed s.deskDark.since)
      ∧ (∀ s ∈ [darkening false true .normal .lit 20000], s.inReset = false ∧ s.supply.state = .normal
        ∧ s.supply.below = true ∧ 20000 ≤ s.elapsed s.supply.since ∧ s.phase = .running ∧ hasRoom s)
      ∧ (∀ s ∈ [darkening false false .dip .dark 100000], listSound s ∧ s.inReset = false ∧ s.supply.state = .dip
        ∧ s.supply.below = false ∧ 100000 ≤ s.elapsed s.supply.since ∧ s.supply.raised = true)
      ∧ (after .deskDarkTaken (darkening true false .normal .lit 10000)).lamps.output = .dark
      ∧ (after .deskDarkTaken (darkening true false .normal .lit 9999)).lamps.output = .lit
      ∧ (after .dipEntry (darkening false true .normal .lit 20000)).faults.entries.map (fun e => (e.code, e.origin))
        = [(1010, 200)]
      ∧ (after .dipEnd (darkening false false .dip .dark 100000)).lamps.output = .restorePending
      ∧ (after .dipEnd (darkening false false .dip .dark 99999)).lamps.output = .dark
      ∧ (after (.deskDarkLineChange true) (atUs 7 running)).deskDark = ⟨true, 7⟩
      ∧ (after (.supplyDipLevelCrossing true) (atUs 7 running)).supply.since = 7 := by decide +kernel

/-! ## Meter, chime and panel -/

/-- The meter moving to a target from a duty. -/
def slewing (target duty : Nat) : State := running.setMeter ⟨target, false, duty, true⟩

/-- A pattern sounding since 0, with a pending one. -/
def sounding (p pending : ChimePattern) : State := running.setChime ⟨some (p, 0), pending, p == .continuous, false⟩

theorem witness_MeterAndChimeFollowTheirTables :
    (0 < running.general.fullScale ∧ (presentToMeter (some 1250) running).meter.speedTarget = 500
        ∧ (presentToMeter (some 4000) running).meter.speedTarget = 1000)
      ∧ (1 ≤ running.general.slewTime ∧ running.general.slewTime ≤ 4)
      ∧ ((slewing 1 0).lamps.output = .lit ∧ (slewing 1 0).meter.moving = true
        ∧ (slewing 1 0).meter.duty ≤ 12000 * (slewing 1 0).meter.target
        ∧ (tickMeter (slewing 1 0)).meter.duty = 6 ∧ (tickMeter (slewing 1 11999)).meter.duty = 12000)
      ∧ (12000 * (slewing 0 5).meter.target ≤ (slewing 0 5).meter.duty ∧ (tickMeter (slewing 0 5)).meter.duty = 0)
      ∧ running.meter.moving = false
      ∧ ((slewing 1 12000).meter.moving = true ∧ (slewing 1 12000).meter.duty = 12000 * (slewing 1 12000).meter.target
        ∧ (after .meterTargetReached (slewing 1 12000)).meter.moving = false)
      ∧ ((outputs .dark none).lamps.output ≠ .lit ∧ running.chime.sounding = none
        ∧ (requestOneShot .single running).chime.sounding = some (.single, 0)
        ∧ (requestOneShot .triple (sounding .single .none)).chime.sounding = some (.triple, 0)
        ∧ (requestOneShot .single (sounding .single .none)).chime.pending = .single
        ∧ (requestOneShot .triple (sounding .triple .triple)) = sounding .triple .triple)
      ∧ ((atUs 200000 (sounding .single .none)).chime.sounding = some (.single, 0)
        ∧ 200000 ≤ (atUs 200000 (sounding .single .none)).elapsed 0
        ∧ 750000 ≤ (atUs 750000 (sounding .triple .single)).elapsed 0)
      ∧ (after .chimePatternEnd (atUs 200000 (sounding .single .none))).chime.sounding = none
      ∧ (after .chimePatternEnd (atUs 199999 (sounding .single .none))).chime.sounding = some (.single, 0)
      ∧ (after .chimePatternEnd (atUs 750000 (sounding .triple .single))).chime
        = ⟨some (.single, 750000), .none, false, true⟩ := by decide +kernel

/-- A request together with the end of the sounding pattern, in both orders (R130, row 1): sounding, pending, request,
and what sounds next and waits. -/
theorem witness_ChimeRequestTogetherWithEnd :
    ∀ q ∈ [(ChimePattern.single, ChimePattern.single, ChimePattern.triple, ChimePattern.triple, ChimePattern.none),
        (.triple, .triple, .single, .triple, .single), (.single, .single, .single, .single, .none),
        (.triple, .none, .single, .single, .none), (.triple, .single, .triple, .triple, .none)],
      let s := atUs 750000 (sounding q.1 q.2.1)
      s.lamps.output = .lit ∧ patternEnded q.1 (s.elapsed 0)
        ∧ (requestOneShot q.2.2.1 s).chime.sounding = some (q.2.2.2.1, 750000)
        ∧ (requestOneShot q.2.2.1 s).chime.pending = q.2.2.2.2
        ∧ requestOneShot q.2.2.1 (after .chimePatternEnd s) = requestOneShot q.2.2.1 s
        ∧ after .chimePatternEnd (requestOneShot q.2.2.1 s) = requestOneShot q.2.2.1 s := by decide +kernel

/-- CONTINUOUS is requested and withdrawn, in and outside LIT, over and without a sounding pattern (R128, R129). -/
theorem witness_ChimeContinuousRequestedAndWithdrawn :
    (running.chime.continuousHeld = false ∧ running.lamps.output = .lit
        ∧ (requestContinuous (sounding .single .triple)).chime = ⟨some (.continuous, 0), .triple, true, false⟩)
      ∧ ((outputs .dark none).chime.continuousHeld = false ∧ (outputs .dark none).lamps.output ≠ .lit
        ∧ (requestContinuous (outputs .dark none)).chime = ⟨none, .none, true, false⟩)
      ∧ ((sounding .continuous .none).chime.continuousHeld = true
        ∧ (sounding .continuous .none).chime.sounding = some (.continuous, 0)
        ∧ (withdrawContinuous (sounding .continuous .none)).chime = ⟨none, .none, false, false⟩
        ∧ (withdrawContinuous (sounding .continuous .single)).chime = ⟨some (.single, 0), .none, false, false⟩)
      ∧ ((running.setChime ⟨none, .none, true, false⟩).chime.sounding = none
        ∧ (withdrawContinuous (running.setChime ⟨none, .none, true, false⟩)).chime = running.chime) := by decide +kernel

/-- The panel with dirty items and a frame in transmission since 0. -/
def panelling (dirty : BitVec 21) (frame : Option Frame) (o : OutputState) (us : Nat) : State :=
  atUs us { outputs o none with panel := ⟨dirty, frame.map (fun f => ⟨f, 0⟩), some 1000000⟩ }

/-- PANEL STATUS as it stands in RUNNING. -/
def statusFrame : Frame := panelItem 0 running

/-- PANEL STATUS has 11 payload bytes: 16 line bytes of 10 bits at 115200 baud are 1388.9 us. -/
theorem witness_PanelSendsLowestDirtyItem :
    (panelling 0x100010 (some statusFrame) .lit 1389).panel.sending = some ⟨statusFrame, 0⟩
      ∧ (statusFrame.payload.length + 5) * 10 * 1000000 ≤ (panelling 0x100010 (some statusFrame) .lit 1389).elapsed 0 * 115200
      ∧ (panelling 0x100010 (some statusFrame) .lit 1388).panelFrameOver = false
      ∧ ((panelling 0x100010 none .lit 1389).panel.dirty.getLsbD 4 = true ∧ sendableNow (panelling 0x100010 none .lit 1389) 4
        ∧ ∀ m, m < 4 → (panelling 0x100010 none .lit 1389).panel.dirty.getLsbD m = true →
          ¬ sendableNow (panelling 0x100010 none .lit 1389) m)
      ∧ (¬ sendableNow (panelling 0x100000 none .dark 0) 20 ∧ ¬ sendableNow (panelling 0 none .lit 0) 21)
      ∧ ((panelling 0 none .lit 1000000).panel.refresh = some 1000000 ∧ (panelling 0 none .lit 1000000).due 1000000 = true) := by
  refine ⟨?_, ?_, ?_, ⟨?_, ?_, ?_⟩, ⟨?_, ?_⟩, ⟨?_, ?_⟩⟩ <;> decide +kernel

/-- Slot 4 on panel field 15, shown as a number or blank. -/
def showing (number : Option Int) : State :=
  { fielded with table := fielded.table.set 4 { fielded.table[4] with shown := .number number } }

/-- Panel fields with a number, blank, without a slot and outside RUNNING, and fault lines with and without an entry. -/
theorem witness_PanelItemsCarryTheirFields :
    (fielded.phase = .running ∧ (∃ d, fielded.table[(4 : Fin 64)].definition = some d
          ∧ d.body = .number none (some 15) none 2)
        ∧ ∀ j : Fin 64, j ≠ 4 → fielded.table[j].panelField.map Prod.fst ≠ some 15)
      ∧ panelItem 16 (showing (some (-2))) = ⟨0x61, [15, 0, 0xff, 0xfe, 2]⟩
      ∧ panelItem 16 (showing none) = ⟨0x61, [15, 1, 0, 0, 0]⟩
      ∧ ((∀ i : Fin 64, running.table[i].panelField.map Prod.fst ≠ some 15)
        ∧ panelItem 16 running = ⟨0x61, [15, 2, 0, 0, 0]⟩)
      ∧ (configuring.phase ≠ .running ∧ panelItem 1 configuring = ⟨0x61, [0, 2, 0, 0, 0]⟩)
      ∧ panelItem 17 three = ⟨0x62, [0, 0] ++ entryBytes (entryOf 1 .activeUnacked)⟩
      ∧ panelItem 20 three = ⟨0x62, [3, 1] ++ List.replicate 15 0⟩ :=
  ⟨⟨rfl, ⟨_, rfl, rfl⟩, by decide +kernel⟩, by decide +kernel, by decide +kernel, ⟨by decide +kernel, by decide +kernel⟩,
    ⟨by decide, by decide +kernel⟩, by decide +kernel, by decide +kernel⟩

theorem test_panel_transmitter :
    ((after .panelFrameEnd (panelling 0x100010 (some statusFrame) .lit 1389)).panel.sending.map (fun x => (x.frame.kind, x.start)),
          (after .panelFrameEnd (panelling 0x100010 (some statusFrame) .lit 1389)).panel.dirty) = (some (0x61, 1389), 0x100000)
      ∧ (after .panelFrameEnd (panelling 0x100000 (some statusFrame) .dark 1389)).panel.sending = none
      ∧ (after .panelRefreshExpiry (panelling 0 none .lit 1000000)).panel.dirty = 0x1ffffe
      ∧ (after .panelRefreshExpiry (panelling 0 (some statusFrame) .lit 1000000)).panel.dirty = 0x1fffff := by decide +kernel

/-- The panel records have the payload lengths of the message formats: 11, 5 and 17 bytes. -/
theorem test_panel_lengths :
    (List.range 21).map (fun n => (panelItem n three).payload.length) = 11 :: .replicate 16 5 ++ .replicate 4 17 := by
  decide +kernel

/-! ## Desk keys -/

/-- A key of learned baseline 1000 in a state with a run, its stuck timer at 20 s. -/
def keyIn (st : KeyState) (run : Nat) : Key :=
  { Key.cleared ⟨8, 16, 200, 120, 20, 3⟩ with
    baseline := some 1000, sampleCount := 8, state := st, run
    stuckTimer := if st = .pressed then some 20000 else none }

/-- RUNNING with one key in a state, at its scan. -/
def keyed (i : Fin 6) (st : KeyState) (run : Nat) (o : OutputState) : State :=
  let s := outputs o none
  atUs 20000 { s with keys := { s.keys with keys := (Vector.replicate 6 (keyIn .released 0)).set i (keyIn st run) } }

/-- Samples at the baseline but for one key. -/
def samples (i : Fin 6) (value : BitVec 12) : Vector (BitVec 12) 6 := (Vector.replicate 6 1000).set i value

theorem witness_KeysFollowSamplesAndStuckTimer :
    (∀ s ∈ [keyed 3 .released 2 .lit, keyed 3 .released 1 .lit, keyed 0 .pressed 2 .dark, keyed 5 .stuck 2 .lit],
        listSound s ∧ s.phase = .running ∧ s.keys.scanAt = some 20000 ∧ s.due 20000 = true
          ∧ ∀ i : Fin 6, s.keys.keys[i].run ≤ 2)
      ∧ (∀ i : Fin 6, ¬ keyChanges (keyed 3 .released 1 .lit).keys.keys[i] (samples 3 799)[i] 20)
      ∧ (keyChanges (keyed 3 .released 2 .lit).keys.keys[(3 : Fin 6)] (samples 3 799)[(3 : Fin 6)] 20
        ∧ ¬ keyChanges (keyed 3 .released 2 .lit).keys.keys[(3 : Fin 6)] (samples 3 800)[(3 : Fin 6)] 20
        ∧ ∀ j : Fin 6, j ≠ 3 → ¬ keyChanges (keyed 3 .released 2 .lit).keys.keys[j] (samples 3 799)[j] 20)
      ∧ (keyed 3 .released 2 .lit).keys.outputHeld = .lit
      ∧ (keyChanges (keyed 0 .pressed 2 .dark).keys.keys[(0 : Fin 6)] (samples 0 881)[(0 : Fin 6)] 20
        ∧ (keyed 0 .pressed 2 .dark).keys.outputHeld ≠ .lit ∧ (keyed 0 .pressed 2 .dark).keys.keys[(0 : Fin 6)].state ≠ .stuck)
      ∧ (keyChanges (keyed 5 .stuck 2 .lit).keys.keys[(5 : Fin 6)] (samples 5 881)[(5 : Fin 6)] 20
        ∧ (keyed 5 .stuck 2 .lit).keys.keys[(5 : Fin 6)].state = .stuck)
      ∧ (after (.keyScan (samples 3 799)) (keyed 3 .released 2 .lit)).lamps.test = some ⟨.key, 10020, .one⟩
      ∧ (after (.keyScan (samples 3 800)) (keyed 3 .released 2 .lit)).keys.keys[3].state = .released
      ∧ (after (.keyScan (samples 4 799)) (keyed 4 .released 2 .lit)).lamps.dim = .night
      ∧ (after (.keyScan (samples 4 799)) (keyed 4 .released 2 .lit)).lp1.queue
        = [⟨0x56, [4, 0, 0, 0x03, 0x1f, 0x03, 0xe8, 0, 0, 0, 20]⟩]
      ∧ (after (.keyScan (samples 0 881)) (keyed 0 .pressed 2 .dark)).lp1.queue = [] := by decide +kernel

/-- RUNNING with two keys touched twice, at their scan, and a second page of faults for the cursor. -/
def twoKeyed (i j : Fin 6) : State :=
  let s := keyed i .released 2 .lit
  { s with keys := { s.keys with keys := s.keys.keys.set j (keyIn .released 2) } }

/-- The press of LAMP TEST during a test has no effect, and of two keys pressed in one scan the lower-numbered reports
and acts first: DIM's OUTPUT REPORT stands before the KEY REPORT of key 5. -/
theorem witness_KeysInOneScan :
    (let s := keyed 3 .released 2 .lit
      let tested := { s with lamps := { s.lamps with test := some ⟨.order, 500, .one⟩ } }
      listSound tested ∧ tested.lamps.test.isSome ∧ keyChanges tested.keys.keys[(3 : Fin 6)] (samples 3 799)[(3 : Fin 6)] 20
        ∧ (after (.keyScan (samples 3 799)) tested).lamps.test = some ⟨.order, 500, .one⟩
        ∧ (after (.keyScan (samples 3 799)) tested).lp0.queue.map (fun f => f.kind) = [0x56])
      ∧ (let v := (samples 4 799).set 5 799
        listSound (twoKeyed 4 5) ∧ keyChanges (twoKeyed 4 5).keys.keys[(4 : Fin 6)] v[(4 : Fin 6)] 20
          ∧ keyChanges (twoKeyed 4 5).keys.keys[(5 : Fin 6)] v[(5 : Fin 6)] 20
          ∧ (twoKeyed 4 5).keys.outputHeld = .lit ∧ (twoKeyed 4 5).lp0.queue.length ≤ 4
          ∧ (after (.keyScan v) (twoKeyed 4 5)).lp0.queue.map (fun f => (f.kind, f.payload.head?))
            = [(0x56, some 4), (0x57, some 1), (0x56, some 5)])
      ∧ (let v := (samples 1 799).set 2 799
        keyChanges (twoKeyed 1 2).keys.keys[(1 : Fin 6)] v[(1 : Fin 6)] 20
          ∧ (after (.keyScan v) (twoKeyed 1 2)).keys.keys[1].state = .pressed
          ∧ (after (.keyScan v) (twoKeyed 1 2)).keys.keys[2].state = .pressed) := by decide +kernel

/-- PAGE UP and DIM pressed in one scan with the panel idle: the status frame that PAGE UP lets begin carries the old dim
state, and DIM leaves the item dirty for a second one (R134, R137). -/
theorem witness_KeysBeginPanelFrameBetween :
    let v := (samples 1 799).set 4 799
    let s := twoKeyed 1 4
    let paged : State := { s with
      panel := ⟨0, none, some 1000000⟩, faults := { s.faults with
        entries := (List.range 5).map (fun n => entryOf n .activeUnacked), cursor := 1 } }
    (listSound paged ∧ paged.phase = .running ∧ paged.keys.scanAt = some 20000 ∧ paged.due 20000 = true
        ∧ ∀ i : Fin 6, paged.keys.keys[i].run ≤ 2)
      ∧ (keyChanges paged.keys.keys[(1 : Fin 6)] v[(1 : Fin 6)] 20 ∧ keyChanges paged.keys.keys[(4 : Fin 6)] v[(4 : Fin 6)] 20
        ∧ ∀ k : Fin 6, k ≠ 1 → k ≠ 4 → ¬ keyChanges paged.keys.keys[k] v[k] 20)
      ∧ (paged.keys.outputHeld = .lit ∧ paged.inReset = false ∧ paged.lamps.output = .lit ∧ paged.panel.sending = none
        ∧ paged.panel.dirty = 0 ∧ 0 < paged.faults.cursor)
      ∧ ((after (.keyScan v) paged).keys.keys[1].state = .pressed ∧ (after (.keyScan v) paged).keys.keys[4].state = .pressed)
      ∧ (after (.keyScan v) paged).lamps.dim = .night
      ∧ (after (.keyScan v) paged).panel.sending.map (fun f => f.frame.payload[4]?) = some (some 0)
      ∧ (after (.keyScan v) paged).panel.dirty.getLsbD 0 = true := by decide +kernel

theorem witness_KeysFollowStuckTimer :
    let s := atUs 20000000 (keyed 2 .pressed 0 .lit)
    s.phase = .running ∧ s.keys.keys[(2 : Fin 6)].state = .pressed ∧ s.keys.keys[(2 : Fin 6)].stuckTimer = some 20000
      ∧ s.reached 20000 = true ∧ hasRoom s ∧ (keyed 2 .pressed 0 .dark).keys.outputHeld ≠ .lit
      ∧ (after (.stuckTimerExpiry 2) s).faults.entries.map (fun e => (e.code, e.origin)) = [(1007, 162)]
      ∧ (after (.stuckTimerExpiry 2) (atUs 19999999 s)).keys.keys[2].state = .pressed := by decide +kernel

/-- The baseline is the mean of eight samples, halves up, and then follows a RELEASED key by 1 in 16 samples. -/
theorem test_key_baseline :
    ({ Key.cleared .default with sampleCount := 7, sampleSum := 7000 }.learn 1004).baseline = some 1001
      ∧ ({ keyIn .released 0 with track := 15 }.tracked 1000 1005 .untouched).baseline = some 1001
      ∧ ({ keyIn .released 0 with track := 14 }.tracked 1000 1005 .untouched).baseline = some 1000 := by decide +kernel

/-! ## Phases, supply and reset -/

theorem witness_OrdersRefusedAtFirstBadField :
    (received .setCadence .lp0 [0, 16, 16] running
        ∧ ([(5, 0, true), (5, 1, false), (5, 2, false)] : List OrderCheck)
          = [(5, 0, true)] ++ (5, 1, false) :: [(5, 2, false)]
        ∧ ∀ q ∈ ([(5, 0, true)] : List OrderCheck), q.2.2 = true)
      ∧ (∀ q ∈ [(numberRecord 64, 5, 1), (numberRecord 0, 12, 1)], received .defineSlot .lp0 q.1 configuring
          ∧ ((slotFields q.1).find? (fun c => !c.2.2)).map (fun c => (c.1, c.2.1)) = some q.2)
      ∧ (received .defineAspect .lp0 (mapRecord 5 0 0) configuring
        ∧ (aspectFields (mapRecord 5 0 0)).head? = some (1, false))
      ∧ (received .defineFault .lp0 (faultRecord 3 0xf3 0 0) configuring
        ∧ (faultFields (faultRecord 3 0xf3 0 0)).head? = some (1, false))
      ∧ (received .referenceSpeed .lp1 [0, 0, 0, 0] running ∧ ¬ sourceFits .lp1 0
        ∧ received .referenceSpeed .lp0 [4, 0x0f, 0xa1, 2] running ∧ sourceFits .lp0 4
        ∧ wordIn [4, 0x0f, 0xa1, 2] 1 0 4000 = false)
      ∧ (after (.setCadence .lp0 [0, 16, 16]) running).lp0.queue = [⟨0x41, [0x15, 5, 1, 0, 0]⟩]
      ∧ (after (.referenceSpeed .lp1 [0, 0, 0, 0]) running).lp1.queue = [⟨0x41, [0x27, 6, 0, 0, 0]⟩]
      ∧ (after (.referenceSpeed .lp0 [4, 0x0f, 0xa1, 2]) running).lp0.queue = [⟨0x41, [0x27, 5, 1, 0, 0]⟩]
      ∧ (after (.referenceSpeed .lp0 [4, 0x0f, 0xa0, 2]) running).lp0.queue = [⟨0x41, [0x27, 5, 2, 0, 0]⟩]
      ∧ (after (.defineSlot .lp0 (numberRecord 0)) configuring).lp0.queue = [⟨0x41, [0x10, 12, 1, 0, 0]⟩]
      ∧ (after (.defineFault .lp0 (faultRecord 3 0xf3 0 0)) configuring).lp0.queue = [⟨0x41, [0x12, 5, 1, 0, 0]⟩] := by
  decide +kernel

/-- The field lists of the statement and the checks of the model agree on records at and past their limits. -/
theorem test_definition_fields_agree :
    (∀ p ∈ [numberRecord 63, numberRecord 64, mapRecord 0 0 0, (List.replicate 29 0xff), 1 :: 2 :: 1 :: 0 :: 15 ::
          0 :: 63 :: 2 :: 23 :: 23 :: List.replicate 19 1, 1 :: 3 :: 31 :: 31 :: 16 :: 0 :: 6 :: 0 :: 23 ::
          List.replicate 20 0],
        ((slotFields p).find? (fun c => !c.2.2)).map (fun c => c.2.1) = (firstFailure (defineSlotChecks p)).map Prod.snd)
      ∧ (∀ p ∈ [mapRecord 4 63 0, mapRecord 5 0 0, [4, 63, 0, 15, 2, 23, 1, 0, 23, 2, 3], [0, 0, 1, 16, 0], [0, 0, 2, 0, 0]],
        ((aspectFields p).find? (fun c => !c.2)).map Prod.fst = (firstFailure (defineAspectChecks p)).map Prod.snd)
      ∧ (∀ p ∈ [faultRecord 3 0xe8 3 0, faultRecord 3 0xf0 4 0, faultRecord 3 0xf2 0 0, faultRecord 3 0xf3 0 0,
          [0, 0, 0, 0, 2, 0, 1, 0, 1, 0, 0x0f, 0xff], [0, 0, 0, 0, 2, 0, 1, 0, 1, 1, 0, 0], [0, 0, 0, 0, 0, 0, 1, 0, 2, 0, 0, 0]],
        ((faultFields p).find? (fun c => !c.2)).map Prod.fst = (firstFailure (defineFaultChecks p)).map Prod.snd) := by
  decide +kernel

/-- Each order with one field just past its limit, its others good, is refused at that field. -/
theorem test_fields_past_their_limits :
    (after (.setKey .lp0 [5, 32, 4, 0x03, 0xe8, 0x03, 0xe8, 60, 3]) configuring).lp0.queue
        = [⟨0x41, [0x16, 5, 5, 0, 0]⟩]
      ∧ (after (.setLink .lp0 [1, 5, 2, 2, 20, 0]) configuring).lp0.queue = [⟨0x41, [0x17, 5, 2, 0, 0]⟩]
      ∧ (after (.setLampChannel .lp0 (12 :: lampRecord.tail)) configuring).lp0.queue = [⟨0x41, [0x14, 5, 1, 0, 0]⟩]
      ∧ (after (.setGeneral .lp0 [0, 15, 0, 1, 0x0f, 0xa1, 4, 63, 100, 50, 23, 2, 1, 30]) configuring).lp0.queue
        = [⟨0x41, [0x18, 5, 5, 0, 0]⟩]
      ∧ (after (.changeover .lp0 [5, 0]) running).lp0.queue = [⟨0x41, [0x26, 5, 0, 0, 0]⟩]
      ∧ (after (.queryFaults .lp1 [0, 5]) running).lp1.queue = [⟨0x41, [0x32, 5, 1, 0, 0]⟩] := by decide +kernel

/-- CONFIGURING with a map that passes check 1 and with slots defined as given. -/
def ready (slots : List (Fin 64 × SlotDef)) (general : General) : State :=
  { configuring with
    aspects := [⟨0, 0, 0, []⟩], general
    table := slots.foldl (fun t q => t.set q.1 (awaiting q.2 .stopped)) configuring.table }

theorem isAspect_of_body {x : Slot} {d : SlotDef} {fallback count : Nat} {group : List Nat} {attention : Bool}
    (hd : x.definition = some d) (hb : d.body = .aspect fallback group attention count) : x.isAspect = true := by
  simp only [Slot.isAspect, hd, hb]

theorem positions_of_state {x : Slot} {d : SlotDef} {fallback position : Nat}
    (hd : x.definition = some d) (hb : d.body = .state fallback position) : x.positions = [position] := by
  simp only [Slot.positions, hd, hb]

/-- Of a state whose slots bind no lamp, only checks 1 and 5 to 7 can fail. -/
theorem startChecks_of_no_lamps {s : State} (h : ∀ i : Fin 64, s.table[i].positions = [] ∧ s.table[i].isAspect = false)
    (hb : s.general.bandLamp = none) (c o : Nat) (hf : startCheckFails s c o) :
    (c = 1 ∧ ¬ ∃ e ∈ s.aspects, e.system = 0 ∧ e.code = 0) ∨ 5 ≤ c := by
  have hbound : ∀ object, boundPositions s object = [] := by
    intro object
    unfold boundPositions
    split
    · rename_i hlt
      exact (h ⟨object, hlt⟩).1
    · simp [hb]
  rcases hf with ⟨rfl, -, ha⟩ | ⟨rfl, i, d, _, _, _, _, -, -, hdef, hbody, -⟩ | ⟨rfl, -, -, hbind⟩
    | ⟨rfl, i, d, _, _, -, -, hdef, hbody, -⟩ | ⟨rfl, -⟩ | ⟨rfl, -⟩ | ⟨rfl, -⟩
  · exact Or.inl ⟨rfl, ha⟩
  · have ha := isAspect_of_body hdef hbody
    rw [(h i).2] at ha
    exact absurd ha (by decide)
  · rcases hbind with ⟨q, hq, -⟩ | ⟨_, _, -, -, ⟨q, hq, -⟩, -⟩ <;> (rw [hbound] at hq; simp at hq)
  · have hp := positions_of_state hdef hbody
    rw [(h i).1] at hp
    exact absurd hp (by simp)
  all_goals exact Or.inr (by omega)

/-- Check 1, with no map entry for system 0 and code 0. -/
theorem witness_StartRefusedAtFirstFailingCheck_1 :
    received .start .lp0 [] configuring ∧ configuring.general.initialSystem ≤ 255 ∧ startCheckFails configuring 1 0
      ∧ (∀ c o, startCheckFails configuring c o → 1 < c ∨ (1 = c ∧ 0 ≤ o))
      ∧ (after (.start .lp0 []) configuring).lp0.queue = [⟨0x41, [0x19, 17, 0, 1, 0]⟩] :=
  ⟨by decide +kernel, by decide, Or.inl ⟨rfl, rfl, by decide⟩,
    fun c o h => by rcases startChecks_of_no_lamps (by decide +kernel) rfl c o h with ⟨rfl, -⟩ | h <;> omega,
    by decide +kernel⟩

/-- Check 2, with slot 63 an ASPECT slot whose fallback the map does not hold. -/
theorem witness_StartRefusedAtFirstFailingCheck_2 :
    let s := ready [(63, ⟨2, 2, 7, .aspect 63 [0] false 3, false⟩)] .default
    received .start .lp0 [] s ∧ startCheckFails s 2 63
      ∧ (∀ c o, startCheckFails s c o → 2 < c ∨ (2 = c ∧ 63 ≤ o))
      ∧ (after (.start .lp0 []) s).lp0.queue = [⟨0x41, [0x19, 17, 0, 2, 63]⟩] := by
  refine ⟨by decide +kernel, Or.inr (Or.inl ⟨rfl, 63, _, _, _, _, _, rfl, by decide, rfl, rfl, by decide⟩), ?_,
    by decide +kernel⟩
  intro c o hf
  rcases hf with ⟨-, -, ha⟩ | ⟨rfl, i, d, _, _, _, _, rfl, -, hdef, hbody, -⟩ | ⟨rfl, -⟩ | ⟨rfl, -⟩ | ⟨rfl, -⟩ | ⟨rfl, -⟩
    | ⟨rfl, -⟩
  · exact absurd ⟨⟨0, 0, 0, []⟩, List.mem_singleton.2 rfl, rfl, rfl⟩ ha
  · have hall : ∀ i : Fin 64, (ready [(63, ⟨2, 2, 7, .aspect 63 [0] false 3, false⟩)] .default).table[i].isAspect = true →
      63 ≤ i.val := by decide +kernel
    exact Or.inr ⟨rfl, hall i (isAspect_of_body hdef hbody)⟩
  all_goals exact Or.inl (by omega)

/-- Check 3, with slots 1 and 2 on one position. -/
theorem witness_StartRefusedAtFirstFailingCheck_3 :
    let s := ready [(1, stateDef), (2, stateDef)] .default
    received .start .lp0 [] s ∧ startCheckFails s 3 2
      ∧ (∀ c o, startCheckFails s c o → 3 < c ∨ (3 = c ∧ 2 ≤ o))
      ∧ (after (.start .lp0 []) s).lp0.queue = [⟨0x41, [0x19, 17, 0, 3, 2]⟩] := by
  have hat : ∀ k ∈ [1, 2], boundPositions (ready [(1, stateDef), (2, stateDef)] .default) k = [5] := by decide +kernel
  refine ⟨by decide +kernel, Or.inr (Or.inr (Or.inl ⟨rfl, by decide, by decide, Or.inr ⟨1, 5, by decide, by decide,
    ⟨5, by rw [hat 1 (by decide)]; decide, Or.inl rfl⟩, ⟨5, by rw [hat 2 (by decide)]; decide, Or.inl rfl⟩⟩⟩)), ?_,
    by decide +kernel⟩
  intro c o hf
  rcases hf with ⟨-, -, ha⟩ | ⟨rfl, i, d, _, _, _, _, -, -, hdef, hbody, -⟩ | ⟨rfl, h1, -, hbind⟩ | ⟨rfl, -⟩ | ⟨rfl, -⟩
    | ⟨rfl, -⟩ | ⟨rfl, -⟩
  · exact absurd ⟨⟨0, 0, 0, []⟩, List.mem_singleton.2 rfl, rfl, rfl⟩ ha
  · have hall : ∀ i : Fin 64, (ready [(1, stateDef), (2, stateDef)] .default).table[i].isAspect = false := by
      decide +kernel
    have hasp := isAspect_of_body hdef hbody
    rw [hall i] at hasp
    exact absurd hasp (by decide)
  · refine Or.inr ⟨rfl, ?_⟩
    by_contra hlt
    have ho : o = 1 := by omega
    subst ho
    rcases hbind with ⟨q, hq, hp, -⟩ | ⟨earlier, _, h1, h2, -⟩
    · rw [hat 1 (by decide)] at hq
      simp only [List.mem_singleton] at hq
      subst hq
      exact absurd hp (by decide +kernel)
    · omega
  all_goals exact Or.inl (by omega)

/-- Check 4, with slot 1 a STATE slot of fallback 4 on a position of a SINGLE pair. -/
theorem witness_StartRefusedAtFirstFailingCheck_4 :
    let s := ready [(1, ⟨1, 0, 16, .state 4 5, false⟩)] .default
    received .start .lp0 [] s ∧ startCheckFails s 4 1
      ∧ (∀ c o, startCheckFails s c o → 4 < c ∨ (4 = c ∧ 1 ≤ o))
      ∧ (after (.start .lp0 []) s).lp0.queue = [⟨0x41, [0x19, 17, 0, 4, 1]⟩] := by
  refine ⟨by decide +kernel, Or.inr (Or.inr (Or.inr (Or.inl ⟨rfl, 1, _, _, _, rfl, by decide, rfl, rfl, by decide,
    by decide, by decide +kernel⟩))), ?_, by decide +kernel⟩
  have hone : boundPositions (ready [(1, ⟨1, 0, 16, .state 4 5, false⟩)] .default) 1 = [5] := by decide +kernel
  have hnone : ∀ k, k ≠ 1 → boundPositions (ready [(1, ⟨1, 0, 16, .state 4 5, false⟩)] .default) k = [] := by
    intro k hk
    by_cases hlt : k < 64
    · have hall : ∀ i : Fin 64, i ≠ 1 → boundPositions (ready [(1, ⟨1, 0, 16, .state 4 5, false⟩)] .default) i.val = [] := by
        decide +kernel
      exact hall ⟨k, hlt⟩ (fun h => hk (by simpa using congrArg Fin.val h))
    · rw [boundPositions, dif_neg hlt]; rfl
  intro c o hf
  rcases hf with ⟨-, -, ha⟩ | ⟨rfl, i, d, _, _, _, _, -, -, hdef, hbody, -⟩ | ⟨rfl, h1, -, hbind⟩
    | ⟨rfl, i, d, _, _, -, ho, -⟩ | ⟨rfl, -⟩ | ⟨rfl, -⟩ | ⟨rfl, -⟩
  · exact absurd ⟨⟨0, 0, 0, []⟩, List.mem_singleton.2 rfl, rfl, rfl⟩ ha
  · have hall : ∀ i : Fin 64, (ready [(1, ⟨1, 0, 16, .state 4 5, false⟩)] .default).table[i].isAspect = false := by
      decide +kernel
    have hasp := isAspect_of_body hdef hbody
    rw [hall i] at hasp
    exact absurd hasp (by decide)
  · exfalso
    rcases hbind with ⟨q, hq, hp, -⟩ | ⟨earlier, _, he1, he2, ⟨q, hq, -⟩, ⟨r, hr, -⟩⟩
    · rcases eq_or_ne o 1 with rfl | ho
      · rw [hone] at hq
        simp only [List.mem_singleton] at hq
        subst hq
        exact absurd hp (by decide +kernel)
      · rw [hnone o ho] at hq; simp at hq
    · rw [hnone o (by omega)] at hr; simp at hr
  · exact Or.inr ⟨rfl, ho⟩
  all_goals exact Or.inl (by omega)

/-- Check 5, with an UNDEFINED permitted-speed slot. -/
theorem witness_StartRefusedAtFirstFailingCheck_5 :
    let s := ready [] { General.default with permittedSlot := some 63 }
    received .start .lp0 [] s ∧ startCheckFails s 5 63
      ∧ (∀ c o, startCheckFails s c o → 5 < c ∨ (5 = c ∧ 63 ≤ o))
      ∧ (after (.start .lp0 []) s).lp0.queue = [⟨0x41, [0x19, 17, 0, 5, 63]⟩] := by
  refine ⟨by decide +kernel, Or.inr (Or.inr (Or.inr (Or.inr (Or.inl ⟨rfl, 63, rfl, rfl, by decide +kernel⟩)))), ?_,
    by decide +kernel⟩
  intro c o hf
  rcases startChecks_of_no_lamps (by decide +kernel) rfl c o hf with ⟨rfl, ha⟩ | h5
  · exact absurd ⟨⟨0, 0, 0, []⟩, List.mem_singleton.2 rfl, rfl, rfl⟩ ha
  · rcases hf with ⟨rfl, -⟩ | ⟨rfl, -⟩ | ⟨rfl, -⟩ | ⟨rfl, -⟩ | ⟨rfl, i, rfl, hi, -⟩ | ⟨rfl, -⟩ | ⟨rfl, -⟩
    · omega
    · omega
    · omega
    · omega
    · exact Or.inr ⟨rfl, by have := Option.some.inj hi; rw [← this]; decide⟩
    · exact Or.inl (by omega)
    · exact Or.inl (by omega)

/-- Check 6, with initial system 5 and 255. -/
theorem witness_StartRefusedAtFirstFailingCheck_6 :
    ∀ n ∈ [0, 5, 255],
      let s := ready [] { General.default with initialSystem := n }
      received .start .lp0 [] s ∧ s.general.initialSystem ≤ 255 ∧ startCheckFails s 6 n
        ∧ (∀ c o, startCheckFails s c o → 6 < c ∨ (6 = c ∧ n ≤ o))
        ∧ (after (.start .lp0 []) s).lp0.queue = [⟨0x41, [0x19, 17, 0, 6, BitVec.ofNat 8 n]⟩] := by
  intro n hn
  refine ⟨by revert n; decide +kernel, by revert n; decide +kernel,
    Or.inr (Or.inr (Or.inr (Or.inr (Or.inr (Or.inl ⟨rfl, rfl, by revert n; decide⟩))))), ?_, by revert n; decide +kernel⟩
  intro c o hf
  rcases hf with ⟨-, -, ha⟩ | h | h | h | ⟨-, i, -, hi, -⟩ | ⟨rfl, ho, -⟩ | ⟨rfl, -⟩
  · exact absurd ⟨⟨0, 0, 0, []⟩, List.mem_singleton.2 rfl, rfl, rfl⟩ ha
  · exact absurd (startChecks_of_no_lamps (s := ready [] .default) (by decide +kernel) rfl c o (Or.inr (Or.inl h)))
      (by rcases h with ⟨rfl, -⟩; omega)
  · exact absurd (startChecks_of_no_lamps (s := ready [] .default) (by decide +kernel) rfl c o (Or.inr (Or.inr (Or.inl h))))
      (by rcases h with ⟨rfl, -⟩; omega)
  · exact absurd (startChecks_of_no_lamps (s := ready [] .default) (by decide +kernel) rfl c o
      (Or.inr (Or.inr (Or.inr (Or.inl h))))) (by rcases h with ⟨rfl, -⟩; omega)
  · exact absurd hi (by simp [ready, General.default])
  · exact Or.inr ⟨rfl, by rw [ho]; exact le_refl _⟩
  · exact Or.inl (by omega)

/-- A NUMBER slot on panel field 15. -/
def fieldDef : SlotDef := ⟨2, 2, 3, .number none (some 15) none 0, false⟩

theorem onFieldFifteen : ∀ k : Fin 64, k ≠ 0 → ∀ f ∈ List.range 15,
    (ready [(1, fieldDef), (2, fieldDef)] .default).table[k].panelField.map Prod.fst ≠ some f := by decide +kernel

/-- Check 7, with slots 1 and 2 on panel field 15. -/
theorem witness_StartRefusedAtFirstFailingCheck_7 :
    let s := ready [(1, fieldDef), (2, fieldDef)] .default
    received .start .lp0 [] s ∧ startCheckFails s 7 15
      ∧ (∀ c o, startCheckFails s c o → 7 < c ∨ (7 = c ∧ 15 ≤ o))
      ∧ (after (.start .lp0 []) s).lp0.queue = [⟨0x41, [0x19, 17, 0, 7, 15]⟩] := by
  refine ⟨by decide +kernel, Or.inr (Or.inr (Or.inr (Or.inr (Or.inr (Or.inr ⟨rfl, by decide, 1, 2, by decide,
    by decide +kernel, by decide +kernel⟩))))), ?_, by decide +kernel⟩
  intro c o hf
  rcases startChecks_of_no_lamps (by decide +kernel) rfl c o hf with ⟨rfl, ha⟩ | h5
  · exact absurd ⟨⟨0, 0, 0, []⟩, List.mem_singleton.2 rfl, rfl, rfl⟩ ha
  · rcases hf with ⟨rfl, -⟩ | ⟨rfl, -⟩ | ⟨rfl, -⟩ | ⟨rfl, -⟩ | ⟨-, i, -, hi, -⟩ | ⟨-, rfl, hr⟩ | ⟨rfl, hle, i, j, hij, hi, hj⟩
    · omega
    · omega
    · omega
    · omega
    · exact absurd hi (by simp [ready, General.default])
    · exact absurd ⟨by decide, by decide⟩ hr
    · refine Or.inr ⟨rfl, ?_⟩
      by_contra hlt
      rcases eq_or_ne i 0 with rfl | hi0
      · exact onFieldFifteen j hij.symm o (by simp; omega) hj
      · exact onFieldFifteen i hi0 o (by simp; omega) hi

/-- A state with number slot 1 and no lamp bound passes every check of START. -/
theorem ready_passes (check object : Nat) : ¬ startCheckFails (ready [(1, numberDef)] .default) check object := by
  intro hf
  rcases startChecks_of_no_lamps (by decide +kernel) rfl check object hf with ⟨rfl, ha⟩ | h5
  · exact absurd ⟨⟨0, 0, 0, []⟩, List.mem_singleton.2 rfl, rfl, rfl⟩ ha
  · rcases hf with ⟨rfl, -⟩ | ⟨rfl, -⟩ | ⟨rfl, -⟩ | ⟨rfl, -⟩ | ⟨-, i, -, hi, -⟩ | ⟨-, rfl, hr⟩ | ⟨rfl, -, i, j, hij, hi, hj⟩
    · omega
    · omega
    · omega
    · omega
    · exact absurd hi (by simp [ready, General.default])
    · exact absurd ⟨by decide, by decide⟩ hr
    · have hall : ∀ k : Fin 64, k ≠ 0 → (ready [(1, numberDef)] .default).table[k].panelField = none := by
        decide +kernel
      rcases eq_or_ne i 0 with rfl | hi0
      · rw [hall j hij.symm] at hj; simp at hj
      · rw [hall i hi0] at hi; simp at hi

theorem witness_StartBeginsRunning :
    let s := ready [(1, numberDef)] .default
    received .start .lp0 [] s ∧ tableSound s ∧ (∀ check object, ¬ startCheckFails s check object)
      ∧ s.speed.pendingWheel = none ∧ s.table[(1 : Fin 64)].definition = some numberDef
      ∧ s.table[(2 : Fin 64)].definition = none ∧ s.supply.state = .normal ∧ s.lp0.queue.length < 7
      ∧ (after (.start .lp0 []) s).phase = .running
      ∧ (after (.start .lp0 []) s).table[1].monitor = .armed 300
      ∧ (after (.start .lp0 []) s).lp0.queue = [⟨0x40, [0x19]⟩, ⟨0x57, [1, 0, 0, 0, 0, 0, 0, 0, 0, 0, 0]⟩] :=
  ⟨by decide +kernel, by decide +kernel, ready_passes, rfl, by decide +kernel, by decide +kernel, rfl, by decide,
    by decide +kernel, by decide +kernel, by decide +kernel⟩

/-- START in DIP and with CAB DARK set: the outputs begin DARK, and DIP raises fault 1010. -/
theorem test_start_dark :
    let s := { ready [] .default with supply := ⟨.dip, false, true, 0⟩, lamps := { LampField.cleared with supply := .dip } }
    s.supply.state = .dip ∧ (after (.start .lp0 []) s).lamps.output = .dark
      ∧ (after (.start .lp0 []) s).faults.entries.map (fun e => (e.code, e.origin)) = [(1010, 200)] := by decide +kernel

theorem witness_StopAndRestartLeaveRunning :
    (received .stop .lp0 [] running ∧ running.changeover.transit = none
        ∧ received .stop .lp0 [] inTransit ∧ inTransit.changeover.transit = some ⟨2, 0, 5000⟩)
      ∧ (received .restart .lp0 [] running ∧ received .restart .lp0 [] configuring)
      ∧ (after (.stop .lp0 []) inTransit).lp0.queue = [⟨0x40, [0x1A]⟩, ⟨0x52, [4, 2, 1, 0, 0, 0, 0, 1, 0, 0, 0, 0, 0]⟩]
      ∧ (after (.stop .lp0 []) live).table[1].lapses = 255 ∧ (after (.restart .lp0 []) live).table[1].lapses = 0
      ∧ (after (.restart .lp0 []) (sending 0 [aReport] none)).lp0.queue = [⟨0x40, [0x25]⟩, ⟨0x40, [0x1B]⟩] := by
  decide +kernel

theorem witness_SleepWaitsForItsReply :
    (∀ s ∈ [running, configuring], received .sleep .lp0 [] s ∧ s.lp0.queue.length < 8
        ∧ ¬ receiveLineLow s .high .lp0 ∧ ¬ receiveLineLow s .high .lp1)
      ∧ (receiveLineLow running ⟨true, true⟩ .lp0 ∧ receiveLineLow running ⟨true, true⟩ .lp1)
      ∧ (after (.sleep .lp0 [] ⟨true, true⟩) running).lp0.queue = [⟨0x41, [0x1C, 18, 0, 0, 0]⟩]
      ∧ (¬ receiveLineLow running ⟨false, true⟩ .lp0 ∧ receiveLineLow running ⟨false, true⟩ .lp1)
      ∧ (after (.sleep .lp0 [] ⟨false, true⟩) running).lp0.queue = [⟨0x41, [0x1C, 18, 0, 0, 1]⟩]
      ∧ (after (.sleep .lp0 [] .high) running).sleep.waiting = true
      ∧ (after (.sleep .lp0 [] .high) running).phase = .configuring := by
  unfold receiveLineLow; decide +kernel

/-- DORMANT, 1 ms after it was entered, with a wake mode. -/
def asleep (mode : WakeMode) : State :=
  { configuring with phase := .dormant, general := { General.default with wakeMode := mode }, clock := 9000000
                     panel := ⟨1, none, none⟩
                     lp0 := { Port.cleared with counters := ⟨1, 2, 3, 4, 5, 6⟩, reportLost := 7, replyLost := 8 } }

/-- DORMANT since 9 s with a break on LP1, whose line fell 2 character times before. -/
def asleepLow (us : Nat) : State :=
  let s := { asleep .retain with sleep := ⟨false, some 9000000⟩ }
  atUs us { s with lp1 := s.lp1.fallen 9000000 }

/-- A line held low in a break wakes the part of itself 1 ms after DORMANT was entered, and no sooner (R167). -/
theorem witness_WakeFromHeldLine :
    (¬ mayWake (asleepLow 9000999) .lp1 ∧ (asleepLow 9000999).lp1.wakesFrom = some 9000428)
      ∧ (mayWake (tick (asleepLow 9000999)) .lp1 ∧ (tick (asleepLow 9000999)).lp1.lineLow = true)
      ∧ (tick (asleepLow 9000999)).dueEvents = [.wake .lp1]
      ∧ (after (.wake .lp1) (asleepLow 9000999)).phase = .dormant
      ∧ (after (.wake .lp1) (tick (asleepLow 9000999))).lp0.queue.map (fun f => f.kind) = [0x50]
      ∧ (asleep .retain).dueEvents = [] ∧ ¬ mayWake (after (.breakEnd .lp1) (asleep .retain)) .lp1 := by decide +kernel

/-- Held in reset by conditions. -/
def heldBy (line low : Bool) (cause : ResetCause) : State := { configuring with resets := ⟨line, low, cause⟩ }

theorem witness_ResetsAndWakesSetEveryBlock :
    (running.resets.lineAsserted = false ∧ running.resets.supplyLow = false)
      ∧ ((heldBy true false .resetLine).resets.lineAsserted = decide (ResetCause.resetLine = .resetLine)
        ∧ (heldBy true false .resetLine).resets.supplyLow = decide (ResetCause.resetLine = .supplyLow)
        ∧ (heldBy false true .supplyLow).resets.lineAsserted = decide (ResetCause.supplyLow = .resetLine)
        ∧ (heldBy false true .supplyLow).resets.supplyLow = decide (ResetCause.supplyLow = .supplyLow))
      ∧ ((heldBy true true .resetLine).resets.lineAsserted = true ∧ (heldBy true true .resetLine).resets.supplyLow = true)
      ∧ (∀ mode ∈ [WakeMode.retain, .reset], ∀ l ∈ [Link.lp0, .lp1],
          (asleep mode).phase = .dormant ∧ (asleep mode).sleep.dormantAt = none ∧ (asleep mode).linkEnabled l = true
            ∧ (asleep mode).inReset = false ∧ (asleep mode).general.wakeMode = mode)
      ∧ after (.resetRelease .supplyLow) (heldBy false true .supplyLow) = State.reset
      ∧ (after (.resetRelease .resetLine) (heldBy true true .resetLine)).inReset = true
      ∧ (after (.wake .lp1) (asleep .retain)).lp0.queue = [⟨0x50, [0, 2, 1, 0, 0, 0x23, 0x28]⟩]
      ∧ ((asleep .retain).lp0.queue.length < 8 ∧ (after (.wake .lp1) (asleep .retain)).lp0.reportLost = 0)
      ∧ (after (.wake .lp0) (asleep .reset)).lp0.queue = [⟨0x50, [0, 3, 0, 0, 0, 0, 0]⟩]
      ∧ (after (.fullReset .resetLine) running).phase = .configuring := by decide +kernel

/-! ## Queries -/

theorem witness_QueriesAnswerAndChangeNothing :
    (∀ s ∈ [configuring, running], received .queryStatus .lp1 [] s ∧ received .querySlot .lp1 [63] s
        ∧ received .queryFaults .lp1 [47, 4] s ∧ received .queryCounters .lp1 [] s ∧ received .querySpeed .lp1 [] s)
      ∧ (byteAt [63] 0).toNat = (63 : Fin 64).val
      ∧ ((byteAt [47, 4] 0).toNat ≤ 47 ∧ 1 ≤ (byteAt [47, 4] 1).toNat ∧ (byteAt [47, 4] 1).toNat ≤ 4)
      ∧ (after (.queryStatus .lp1 []) running).lp1.queue
        = [⟨0x42, [1, 1, 0, 0, 0, 1, 0, 0, 0, 0, 0, 0, 0, 0, 0, 0, 0, 0, 0, 0]⟩]
      ∧ (after (.queryFaults .lp1 [0, 4]) three).lp1.queue.map (fun f => (f.kind, f.payload.length)) = [(0x44, 48)] := by
  decide +kernel

/-- SLOT DATA of each kind in RUNNING and of an UNDEFINED slot, and SPEED DATA with a reference record, field by field. -/
theorem witness_DataRepliesFieldByField :
    tableSound fielded
      ∧ (∀ i ∈ [(0 : Fin 64), 2, 3, 4, 63], received .querySlot .lp1 [BitVec.ofNat 8 i.val] fielded
          ∧ (byteAt [BitVec.ofNat 8 i.val] 0).toNat = i.val)
      ∧ ((slotData 4 fielded).payload.take 7 = [4, 1, 2, 2, 3, 0x80, 0] ∧ byteAt (slotData 4 fielded).payload 8 = 15)
      ∧ (slotData 3 fielded).payload = List.replicate 42 0
      ∧ (slotData 2 fielded).payload.drop 26 = [1, 3, 0, 1, 0, 0, 0, 0, 0, 0, 0, 0, 0, 0, 0, 0]
      ∧ (after (.querySpeed .lp1 []) (compared 52 ⟨.disagree, 0, 2⟩)).lp1.queue
        = [⟨0x46, speedDataSent (compared 52 ⟨.disagree, 0, 2⟩)⟩] := by decide +kernel

/-- The data replies have the payload lengths of the message formats. -/
theorem test_data_reply_lengths :
    (∀ i ∈ [(0 : Fin 64), 1, 2, 3, 63], (slotData i running).payload.length = 42)
      ∧ (speedData running).payload.length = 44
      ∧ ((after (.queryCounters .lp1 []) running).lp1.queue.map (fun f => f.payload.length)) = [32] := by decide +kernel

end Sys2Proof.Tests
end

section
/-! The table of chapter 1 under its orders: what an order that passes the hand-over answers, DEFINE SLOT (R2), UPDATE's
tests (R8, R9) and KEEP ALIVE (R12). -/

namespace Sys2Proof.Proofs

open Sys2Proof Sys2Proof.Machine Sys2Proof.Safety Sys2Proof.Laws

/-! ## Orders and their replies -/

theorem exec_defineSlot (l : Link) (p : List Byte) (s : State) :
    exec (.defineSlot l p) s = .next (takeOrder .defineSlot l p (ownDefineSlot l p) s) := rfl

theorem exec_update (l : Link) (p : List Byte) (s : State) :
    exec (.update l p) s = .next (takeOrder .update l p (ownUpdate l p) s) := rfl

theorem exec_keepAlive (l : Link) (p : List Byte) (s : State) :
    exec (.keepAlive l p) s = .next (takeOrder .keepAlive l p (ownKeepAlive l p) s) := rfl

/-- What a reply does to the ports is decided by the ports and the clock alone, so an effect that leaves both as the
hand-over left them is answered like the hand-over itself. -/
theorem repliedWith_queueFrame_of_ports {f : Frame} {l : Link} {s u : State} (enabled : s.linkEnabled l = true)
    (clock : u.clock = s.clock) (ports : ∀ m, u.port m = (frameHeard l s).port m) :
    repliedWith f l s (queueFrame l f u) := by
  have enabledAfter : u.linkEnabled l = true := by
    rw [← enabled, ← linkEnabled_frameHeard l l s]
    cases l
    · rfl
    · exact congrArg (fun p : Port => p.settings.enabled) (ports .lp1)
  unfold queueFrame
  rw [if_pos enabledAfter]
  refine ⟨?_, fun m other => ?_⟩
  · rw [port_setPort, ports l, clock, frameHeard, port_setPort, enqueue_wokeAt]
  · rw [port_setPort_other _ _ _ _ other, ports m, frameHeard, port_setPort_other _ _ _ _ other]

@[simp] theorem table_frameHeard (l : Link) (s : State) : (frameHeard l s).table = s.table := by cases l <;> rfl

@[simp] theorem now_frameHeard (l : Link) (s : State) : (frameHeard l s).now = s.now := by cases l <;> rfl

theorem clock_frameHeard (l : Link) (s : State) : (frameHeard l s).clock = s.clock := by cases l <;> rfl

@[simp] theorem table_accept (k : OrderKind) (l : Link) (s : State) : (accept k l s).table = s.table :=
  touches_accept k l s .table (by decide)

/-- An order that its owning block refuses is answered with REFUSE, and nothing changes but the ports. -/
theorem answers_refused {c : Instr} {k : OrderKind} {l : Link} {p : List Byte} {s : State} {owner : State → State}
    {r : Reason} {item : Nat} (got : received k l p s = true) (run : exec c s = .next (takeOrder k l p owner s))
    (refuses : owner (frameHeard l s) = refuse k l r item (frameHeard l s)) :
    answers c s (fun t =>
      repliedWith (refuseFrame k.code r item 0 0) l s t ∧ unchangedExcept [.lp0, .lp1] s t) := by
  refine ⟨_, run, ?_⟩
  rw [takeOrder_received _ got, refuses]
  exact ⟨repliedWith_queueFrame _ l s (received_enabled got),
    unchangedExcept_trans (touches_frameHeard l s) (touches_refuse k l r item _)⟩

/-- An order whose owning block replaces the table and answers ACCEPT: the reply says nothing of the table, so a
property of the next state is one of the new table, the reply and the frame. -/
theorem answers_replacing_table {c : Instr} {k : OrderKind} {l : Link} {p : List Byte} {s : State}
    {owner : State → State} {x : Vector Slot 64} {post : State → Prop} (got : received k l p s = true)
    (run : exec c s = .next (takeOrder k l p owner s))
    (replaces : owner (frameHeard l s) = accept k l ((frameHeard l s).setTable x))
    (holds : ∀ t : State, t.table = x → acceptedQuietly k l s t → unchangedExcept [.lp0, .lp1, .table] s t →
      post t) :
    answers c s post := by
  refine ⟨_, run, ?_⟩
  rw [takeOrder_received _ got, replaces]
  have heard := (touches_frameHeard l).mono (gs := [.lp0, .lp1, .table]) (by decide) s
  have placed := (touches_setTable x).mono (gs := [.lp0, .lp1, .table]) (by decide) (frameHeard l s)
  have replied := (touches_accept k l).mono (gs := [.lp0, .lp1, .table]) (by decide) ((frameHeard l s).setTable x)
  exact holds _ (table_accept k l _)
    (repliedWith_queueFrame_of_ports (received_enabled got) (clock_frameHeard l s) (fun m => by cases m <;> rfl))
    (unchangedExcept_trans heard (unchangedExcept_trans placed replied))

/-! ## DEFINE SLOT (R1, R2, R158) -/

theorem setSlot_eq_setTable (s : State) (i : Fin 64) (x : Slot) : s.setSlot i x = s.setTable (s.table.set i x) := rfl

theorem natAt_eq_iff (p : List Byte) (i : Nat) (b : Byte) : natAt p i = b.toNat ↔ byteAt p i = b :=
  ⟨BitVec.eq_of_toNat_eq, congrArg BitVec.toNat⟩

theorem natAt_beq_one (p : List Byte) (i : Nat) : (natAt p i == 1) = (byteAt p i == 1) := by
  rw [Bool.eq_iff_iff, beq_iff_eq, beq_iff_eq]
  exact natAt_eq_iff p i 1

theorem slotBodyIn_number {p : List Byte} (kind : natAt p 1 = 1) :
    slotBodyIn p = .number (if wordAt p 5 = 0x8000 then none else some (wordAt p 5).toInt)
      (if byteAt p 8 = 0xff then none else some (byteAt p 8).toNat) (rangeRead p) (byteAt p 25).toNat := by
  have field : natAt p 8 = 0xff ↔ byteAt p 8 = 0xff := natAt_eq_iff p 8 0xff
  have range : (if natAt p 20 = 0 then none else some (rangeIn p)) = rangeRead p := by
    unfold rangeRead rangeIn int16At natAt
    split <;> rfl
  simp only [slotBodyIn, kind, isBlank, beq_iff_eq, field, range, int16At]
  rfl

theorem slotBodyIn_aspect {p : List Byte} (kind : natAt p 1 = 2) :
    slotBodyIn p = .aspect (wordAt p 5).toNat
      ((List.range (byteAt p 7).toNat).map (fun n => (byteAt p (8 + n)).toNat))
      (byteAt p 26 == 1) (byteAt p 27).toNat := by
  simp only [slotBodyIn, kind, natAt_beq_one]
  rfl

theorem slotBodyIn_state {p : List Byte} (kind : natAt p 1 = 3) :
    slotBodyIn p = .state (wordAt p 5).toNat (byteAt p 8).toNat := by
  simp only [slotBodyIn, kind]
  rfl

/-- A DEFINE SLOT of a kind other than NONE carries the definition its bytes stand for. -/
theorem definitionRead_slotDefIn {p : List Byte} (kind : 1 ≤ natAt p 1) :
    ∃ d, slotDefIn p = some d ∧ definitionRead p d := by
  refine ⟨_, if_neg (by omega), rfl, rfl, rfl, ?_, slotBodyIn_number, slotBodyIn_aspect, slotBodyIn_state⟩
  simp only [natAt_beq_one, beq_iff_eq]

/-- A DEFINE SLOT that passes its checks puts a fresh slot in place of the one it names (R2). -/
theorem ownDefineSlot_passes {p : List Byte} {i : Fin 64} (ok : passes (defineSlotChecks p)) (names : natAt p 0 = i.val)
    (l : Link) (s : State) :
    ownDefineSlot l p s = accept .defineSlot l (s.setTable (s.table.set i (Slot.fresh (slotDefIn p)))) := by
  have bound : natAt p 0 < 64 := names ▸ i.isLt
  have slot : (⟨natAt p 0, bound⟩ : Fin 64) = i := Fin.ext names
  unfold ownDefineSlot
  rw [checked_passes _ _ ok, dif_pos bound, slot]
  rfl

/-- Settles O20: the slot that an accepted DEFINE SLOT names is a fresh one with the record's definition. -/
theorem defineSlotReplacesDefinition : Obligations.DefineSlotReplacesDefinition := by
  intro l p s i got ok names
  refine answers_replacing_table got (exec_defineSlot l p s) (ownDefineSlot_passes ok names l (frameHeard l s)) ?_
  intro t placed replied frame
  have named : t.table[i] = Slot.fresh (slotDefIn p) := by simp [placed]
  have others : ∀ j : Fin 64, j ≠ i → t.table[j] = s.table[j] := by
    intro j other
    have apart : i.val ≠ j.val := fun same => other (Fin.ext same.symm)
    simp [placed, apart]
  rw [named]
  refine ⟨fun kind => ?_, fun isNone => ?_, rfl, rfl, rfl, rfl, rfl, rfl, rfl, others, replied, frame⟩
  · obtain ⟨d, carried, read⟩ := definitionRead_slotDefIn kind
    exact ⟨by simp [Slot.fresh, carried], d, carried, read⟩
  · have undefined : slotDefIn p = none := if_pos isNone
    exact ⟨by simp [Slot.fresh, undefined], undefined⟩

/-! ## KEEP ALIVE (R8, R12) -/

/-- The source check is R8's condition. -/
theorem sourceAllowed_iff (l : Link) (source : Nat) : sourceAllowed l source = true ↔ sourceFits l source := by
  cases l
  · simp [sourceAllowed, sourceFits]
  · simp [sourceAllowed, sourceFits, within]
    omega

/-- A source that is not allowed on the link fails the first check. -/
theorem firstFailure_badSource {l : Link} {source : Nat} (bad : ¬ sourceFits l source) (rest : List Check) :
    firstFailure (sourceCheck l source :: rest) = some (.badSource, 0) := by
  have refused : sourceAllowed l source = false := by
    rw [← Bool.not_eq_true, sourceAllowed_iff]
    exact bad
  simp [firstFailure, sourceCheck, refused]

/-- A source that is allowed leaves the decision to the checks after it. -/
theorem firstFailure_goodSource {l : Link} {source : Nat} (good : sourceFits l source) (rest : List Check) :
    firstFailure (sourceCheck l source :: rest) = firstFailure rest := by
  simp [firstFailure, sourceCheck, (sourceAllowed_iff l source).mpr good]

/-- A LIVE slot with a deadline whose refresh set holds the source is re-armed (R12). -/
theorem keptAlive_rearmed {s : State} {source : Nat} {x : Slot} {d : SlotDef} (defined : x.definition = some d)
    (live : x.state = .live) (member : d.refresh.getLsbD source = true) (deadline : d.deadline ≤ 15) :
    s.keptAlive source x = { x with monitor := .armed (s.now + BitVec.ofNat 32 (deadlineMs d.deadline)) } := by
  have bounded : d.deadline < 16 := by omega
  simp [State.keptAlive, State.armedMonitor, State.deadlineFrom, plusMs, Slot.hasDeadline, memberOf, defined, live,
    member, bounded]

/-- A slot that fails one of the three conditions stands (R12). -/
theorem keptAlive_kept {s : State} {source : Nat} {x : Slot} {d : SlotDef} (defined : x.definition = some d)
    (fails : x.state ≠ .live ∨ d.refresh.getLsbD source = false ∨ 16 ≤ d.deadline) :
    s.keptAlive source x = x := by
  refine if_neg fun met => ?_
  simp only [Slot.hasDeadline, defined, Option.any_some, memberOf, Bool.and_eq_true, beq_iff_eq,
    decide_eq_true_eq] at met
  obtain ⟨⟨live, bounded⟩, member⟩ := met
  rcases fails with notLive | absent | unbounded
  · exact notLive live
  · rw [member] at absent
    exact Bool.noConfusion absent
  · omega

theorem keptAlive_undefined {s : State} {source : Nat} {x : Slot} (undefined : x.definition = none) :
    s.keptAlive source x = x := by
  simp [State.keptAlive, Slot.hasDeadline, undefined]

theorem ownKeepAlive_goodSource {l : Link} {p : List Byte} (good : sourceFits l (natAt p 0)) (s : State) :
    ownKeepAlive l p s = accept .keepAlive l (s.setTable (mapVec (s.keptAlive (natAt p 0)) s.table)) :=
  checked_passes _ s (firstFailure_goodSource good [])

/-- Settles O24: the new table is the old one with every slot kept alive by R12's three conditions. -/
theorem keepAliveRearmsItsRefreshSlots : Obligations.KeepAliveRearmsItsRefreshSlots := by
  intro l p s got
  refine ⟨fun bad => ?_, fun good => ?_⟩
  · exact answers_refused got (exec_keepAlive l p s) (checked_refused _ _ (firstFailure_badSource bad []))
  refine answers_replacing_table got (exec_keepAlive l p s) (ownKeepAlive_goodSource good (frameHeard l s)) ?_
  intro t placed replied frame
  have slots (i : Fin 64) : t.table[i] = (frameHeard l s).keptAlive (byteAt p 0).toNat s.table[i] := by
    simp [placed, natAt]
  refine ⟨fun i d defined live member deadline => ?_, fun i d defined fails => ?_, fun i undefined => ?_,
    replied, frame⟩
  · rw [slots, keptAlive_rearmed defined live member deadline, now_frameHeard]
  · rw [slots, keptAlive_kept defined fails]
  · rw [slots, keptAlive_undefined undefined]

end Sys2Proof.Proofs
end

section
/-! The tests of an UPDATE (R5, R8, R9): the checks that the owning block lists, read pair by pair. -/

namespace Sys2Proof.Proofs

open Sys2Proof Sys2Proof.Machine Sys2Proof.Safety Sys2Proof.Laws

/-! ## Lists of checks -/

theorem firstFailure_append {checks : List Check} (pass : firstFailure checks = none) (rest : List Check) :
    firstFailure (checks ++ rest) = firstFailure rest := by
  induction checks with
  | nil => rfl
  | cons c checks ih =>
    have passed : c.passes = true := (firstFailure_none_iff _).mp pass c List.mem_cons_self
    simp only [firstFailure, passed, if_true] at pass
    simp only [List.cons_append, firstFailure, passed, if_true, ih pass]

theorem firstFailure_append_of_fails {checks : List Check} {found : Reason × Nat}
    (fails : firstFailure checks = some found) (rest : List Check) :
    firstFailure (checks ++ rest) = some found := by
  induction checks with
  | nil => exact absurd fails (by simp [firstFailure])
  | cons c checks ih =>
    simp only [List.cons_append, firstFailure] at fails ⊢
    split at fails
    · rename_i passed
      rw [if_pos passed, ih fails]
    · rename_i failed
      rw [if_neg failed, fails]

/-- Blocks of checks in order: the first block that fails decides. -/
theorem firstFailure_flatMap_range {block : Nat → List Check} {n k : Nat} {found : Reason × Nat} (bound : k < n)
    (before : ∀ j, j < k → firstFailure (block j) = none) (fails : firstFailure (block k) = some found) :
    firstFailure ((List.range n).flatMap block) = some found := by
  have passed : firstFailure ((List.range k).flatMap block) = none := by
    rw [firstFailure_none_iff]
    intro c mem
    obtain ⟨j, below, mem⟩ := List.mem_flatMap.mp mem
    exact (firstFailure_none_iff _).mp (before j (List.mem_range.mp below)) c mem
  obtain ⟨m, rfl⟩ : ∃ m, n = k + (m + 1) := ⟨n - k - 1, by omega⟩
  rw [List.range_add, List.flatMap_append, firstFailure_append passed, List.range_succ_eq_map, List.map_cons,
    List.flatMap_cons]
  exact firstFailure_append_of_fails fails _

/-! ## The value test (R5) -/

/-- A signed word that is not BLANK lies in the full range. -/
theorem toInt_within_of_not_blank {v : Word} (given : v ≠ 0x8000) : -32767 ≤ v.toInt ∧ v.toInt ≤ 32767 := by
  have apart : v.toNat ≠ 32768 := fun same => given (BitVec.eq_of_toNat_eq same)
  have bound := v.isLt
  rw [BitVec.toInt_eq_toNat_cond]
  split <;> omega

/-- The owning block's test of a value is the table of R5. -/
theorem validFor_eq_validValue (s : State) (d : SlotDef) (v : Word) : s.validFor d v = validValue s d v := by
  unfold State.validFor validValue
  cases d.body with
  | number fallback panel range places =>
    cases range with
    | none =>
      by_cases blank : v = 0x8000
      · simp [isBlank, blank]
      · obtain ⟨low, high⟩ := toInt_within_of_not_blank blank
        change (v != 0x8000 && decide (-32767 ≤ v.toInt) && decide (v.toInt ≤ 32767)) = (v != 0x8000)
        simp [low, high]
    | some r => rfl
  | aspect fallback group attention count =>
    exact List.isSome_find?
  | state fallback position => rfl

/-! ## The tests of one pair (R9) -/

theorem slotNumbered_of_lt (s : State) {n : Nat} (bound : n < 64) : s.slotNumbered n = s.table[n] := dif_pos bound

theorem slotNumbered_of_not_lt (s : State) {n : Nat} (beyond : ¬ n < 64) : s.slotNumbered n = Slot.undefined :=
  dif_neg beyond

theorem isAspect_of_definition {x : Slot} {d : SlotDef} (defined : x.definition = some d) :
    x.isAspect = isAspectBody d.body := by
  simp only [Slot.isAspect, defined]
  cases d.body <;> rfl

/-- A pair that names no defined slot fails the first test. -/
theorem firstFailure_pairChecks_undefined {s : State} {n : Nat} (undefined : (s.slotNumbered n).definition = none)
    (source : Nat) (earlier : List Nat) (index : Nat) (v : Word) :
    firstFailure (s.pairChecks source earlier index (n, v)) = some (.noSlot, index) := by
  simp [State.pairChecks, firstFailure, undefined]

/-- The six checks of a pair fail first where the six tests of R9 do. -/
theorem firstFailure_pairChecks (s : State) (source : Nat) (earlier : List Nat) (index n : Nat) (v : Word) :
    firstFailure (s.pairChecks source earlier index (n, v))
      = (pairRefusal s source earlier n v).map (fun r => (r, index)) := by
  unfold pairRefusal
  by_cases bound : n < 64
  · rw [dif_pos bound]
    cases defined : s.table[n].definition with
    | none =>
      exact firstFailure_pairChecks_undefined (by rw [slotNumbered_of_lt s bound, defined]) source earlier index v
    | some d =>
      have system : (!isAspectBody d.body || source == 0 || source == s.changeover.active)
          = !(isAspectBody d.body && source != 0 && source != s.changeover.active) := by simp [bne]
      simp only [State.pairChecks, slotNumbered_of_lt s bound, defined, isAspect_of_definition defined,
        Option.isSome_some, Option.any_some, validFor_eq_validValue, memberOf, system, firstFailure, if_true]
      by_cases zero : n = 0
      · simp [zero]
      cases owner : d.owner.getLsbD source
      · simp [zero]
      cases system : isAspectBody d.body && source != 0 && source != s.changeover.active
      · cases value : validValue s d v
        · simp [zero]
        by_cases named : n ∈ earlier <;> simp [zero, named]
      · simp [zero]
  · rw [dif_neg bound]
    exact firstFailure_pairChecks_undefined (by rw [slotNumbered_of_not_lt s bound]; rfl) source earlier index v

/-! ## The tests of an UPDATE (R8, R9) -/

theorem pairsIn_length (p : List Byte) : (pairsIn p).length = pairCount p := by
  simp [pairsIn, pairCount]

theorem pairsIn_getD {p : List Byte} {k : Nat} (bound : k < pairCount p) :
    (pairsIn p).getD k (0, 0) = pairRead p k := by
  rw [List.getD_eq_getElem _ _ (by rw [pairsIn_length]; exact bound)]
  simp [pairsIn, pairRead, natAt]

theorem pairsIn_take {p : List Byte} {k : Nat} (bound : k ≤ pairCount p) :
    ((pairsIn p).take k).map Prod.fst = namedBefore p k := by
  unfold pairsIn
  rw [← List.map_take, List.take_range, List.map_map, Nat.min_eq_left (show k ≤ (p.length - 2) / 3 from bound)]
  rfl

/-- The hand-over leaves what the tests read. -/
theorem refusalAt_frameHeard (l : Link) (s : State) (p : List Byte) (k : Nat) :
    refusalAt (frameHeard l s) p k = refusalAt s p k := by
  cases l <;> rfl

/-- The checks of the pair at a place fail first where its tests do. -/
theorem firstFailure_pairAt {s : State} {p : List Byte} {k : Nat} (bound : k < pairCount p) :
    firstFailure (s.pairChecks (natAt p 0) (((pairsIn p).take k).map Prod.fst) k ((pairsIn p).getD k (0, 0)))
      = (refusalAt s p k).map (fun r => (r, k)) := by
  rw [pairsIn_getD bound, pairsIn_take (Nat.le_of_lt bound)]
  exact firstFailure_pairChecks s _ _ k _ _

/-- The first pair that fails a test decides, at the first test it fails. -/
theorem firstFailure_allPairChecks {s : State} {p : List Byte} {k : Nat} {r : Reason} (bound : k < pairCount p)
    (before : ∀ j, j < k → refusalAt s p j = none) (fails : refusalAt s p k = some r) :
    firstFailure (s.allPairChecks (natAt p 0) (pairsIn p)) = some (r, k) := by
  refine firstFailure_flatMap_range (by rw [pairsIn_length]; exact bound) (fun j below => ?_) ?_
  · rw [firstFailure_pairAt (Nat.lt_trans below bound), before j below]
    rfl
  · rw [firstFailure_pairAt bound, fails]
    rfl

theorem ownUpdate_refused {l : Link} {p : List Byte} {s : State} {r : Reason} {item : Nat}
    (fails : firstFailure (sourceCheck l (natAt p 0) :: s.allPairChecks (natAt p 0) (pairsIn p)) = some (r, item)) :
    ownUpdate l p s = refuse .update l r item s := by
  unfold ownUpdate
  exact checked_refused _ s fails

/-- Settles O22: the checks are the source's and then the pairs', and the first that fails refuses. -/
theorem updateRefusedAtFirstFailure : Obligations.UpdateRefusedAtFirstFailure := by
  intro l p s got
  refine ⟨fun bad => ?_, fun k r good bound before fails => ?_⟩
  · exact answers_refused got (exec_update l p s) (ownUpdate_refused (firstFailure_badSource bad _))
  · have first : firstFailure ((frameHeard l s).allPairChecks (natAt p 0) (pairsIn p)) = some (r, k) :=
      firstFailure_allPairChecks bound (fun j below => by rw [refusalAt_frameHeard, before j below])
        (by rw [refusalAt_frameHeard, fails])
    exact answers_refused got (exec_update l p s) (ownUpdate_refused ((firstFailure_goodSource good _).trans first))

end Sys2Proof.Proofs
end

section
/-! Which operations keep the definitions of the Indication Table (section 1.1): all but DEFINE SLOT and a full reset.
One equation per operation, in the order of the blocks. -/

namespace Sys2Proof.Proofs

open Sys2Proof Sys2Proof.Machine Sys2Proof.Safety Sys2Proof.Laws

/-- The definitions of the table, slot by slot. -/
def definitions (s : State) : Vector (Option SlotDef) 64 := s.table.map Slot.definition

theorem definitions_getElem (s : State) (i : Fin 64) : (definitions s)[i] = s.table[i].definition := by
  simp [definitions]

theorem definitions_of_touches {fs : List Field} {op : State → State} (h : Touches fs op) (away : Field.table ∉ fs)
    (s : State) : definitions (op s) = definitions s :=
  congrArg (Vector.map Slot.definition) (h s .table away)

theorem definitions_foldl {α : Type} {op : State → α → State} (h : ∀ s a, definitions (op s a) = definitions s)
    (l : List α) (s : State) : definitions (l.foldl op s) = definitions s := by
  induction l generalizing s with
  | nil => rfl
  | cons a rest ih => exact (ih (op s a)).trans (h s a)

/-! ## Named updates -/

section
variable (s : State)
@[simp] theorem definitions_setPort (l : Link) (x : Port) : definitions (s.setPort l x) = definitions s := by
  cases l <;> rfl
@[simp] theorem definitions_setBand (x : BandState) : definitions (s.setBand x) = definitions s := rfl
@[simp] theorem definitions_setAspects (x : List AspectEntry) : definitions (s.setAspects x) = definitions s := rfl
@[simp] theorem definitions_setChangeover (x : Changeover) : definitions (s.setChangeover x) = definitions s := rfl
@[simp] theorem definitions_setSpeed (x : SpeedUnit) : definitions (s.setSpeed x) = definitions s := rfl
@[simp] theorem definitions_setFaults (x : FaultList) : definitions (s.setFaults x) = definitions s := rfl
@[simp] theorem definitions_setLamps (x : LampField) : definitions (s.setLamps x) = definitions s := rfl
@[simp] theorem definitions_setMeter (x : Meter) : definitions (s.setMeter x) = definitions s := rfl
@[simp] theorem definitions_setChime (x : Chime) : definitions (s.setChime x) = definitions s := rfl
@[simp] theorem definitions_setPanel (x : Panel) : definitions (s.setPanel x) = definitions s := rfl
@[simp] theorem definitions_setKeys (x : KeyScanner) : definitions (s.setKeys x) = definitions s := rfl
@[simp] theorem definitions_setPhase (x : Phase) : definitions (s.setPhase x) = definitions s := rfl
@[simp] theorem definitions_setSupply (x : Supply) : definitions (s.setSupply x) = definitions s := rfl
@[simp] theorem definitions_setGeneral (x : General) : definitions (s.setGeneral x) = definitions s := rfl

/-- A slot replaced by one of the same definition. -/
theorem definitions_setSlot {i : Fin 64} {x : Slot} (same : x.definition = s.table[i].definition) :
    definitions (s.setSlot i x) = definitions s := by
  ext j bound
  by_cases hit : i.val = j
  · subst hit
    simp [definitions, same]
  · simp [definitions, hit]

/-- Every slot replaced by one of the same definition. -/
theorem definitions_mapTable {f : Slot → Slot} (same : ∀ x, (f x).definition = x.definition) :
    definitions (s.setTable (mapVec f s.table)) = definitions s := by
  ext j bound
  simp [definitions, same]

/-! ## Replies, marks and the fault list -/

@[simp] theorem definitions_queueFrame (l : Link) (f : Frame) : definitions (queueFrame l f s) = definitions s :=
  definitions_of_touches (touches_queueFrame l f) (by decide) s
@[simp] theorem definitions_report (f : Frame) : definitions (report f s) = definitions s :=
  definitions_of_touches (touches_report f) (by decide) s
@[simp] theorem definitions_accept (k : OrderKind) (l : Link) : definitions (accept k l s) = definitions s :=
  definitions_of_touches (touches_accept k l) (by decide) s
@[simp] theorem definitions_refuse (k : OrderKind) (l : Link) (r : Reason) (item : Nat) :
    definitions (refuse k l r item s) = definitions s :=
  definitions_of_touches (touches_refuse k l r item) (by decide) s
@[simp] theorem definitions_frameHeard (l : Link) : definitions (frameHeard l s) = definitions s :=
  definitions_of_touches (touches_frameHeard l) (by decide) s
@[simp] theorem definitions_markStatus : definitions (markStatus s) = definitions s := rfl
@[simp] theorem definitions_markAll : definitions (markAll s) = definitions s := rfl
@[simp] theorem definitions_beginRefresh : definitions (beginRefresh s) = definitions s := rfl
@[simp] theorem definitions_kickPanel : definitions (kickPanel s) = definitions s :=
  definitions_of_touches touches_kickPanel (by decide) s
@[simp] theorem definitions_conclude : definitions (conclude s) = definitions s :=
  definitions_of_touches touches_conclude (by decide) s
@[simp] theorem definitions_effectChimePatternEnd : definitions (effectChimePatternEnd s) = definitions s :=
  definitions_of_touches touches_effectChimePatternEnd (by decide) s
@[simp] theorem definitions_takeRaise (agent : Agent) (code origin : Nat) (parameter : Option Word) :
    definitions (takeRaise agent code origin parameter s) = definitions s :=
  definitions_of_touches (touches_takeRaise agent code origin parameter) (by decide) s
@[simp] theorem definitions_internalRaise (code origin : Nat) (parameter : Option Word) :
    definitions (internalRaise code origin parameter s) = definitions s :=
  definitions_of_touches (touches_internalRaise code origin parameter) (by decide) s
@[simp] theorem definitions_internalClear (code origin : Nat) :
    definitions (internalClear code origin s) = definitions s :=
  definitions_of_touches (touches_internalClear code origin) (by decide) s
@[simp] theorem definitions_clearEntries (agent : Agent) (chosen : List Entry) :
    definitions (clearEntries agent chosen s) = definitions s :=
  definitions_of_touches (touches_clearEntries agent chosen) (by decide) s
@[simp] theorem definitions_acknowledgeEntries (agent : Agent) (chosen : List Entry) :
    definitions (acknowledgeEntries agent chosen s) = definitions s :=
  definitions_of_touches (touches_acknowledgeEntries agent chosen) (by decide) s
@[simp] theorem definitions_setConditions (conditions : Word) :
    definitions (setConditions conditions s) = definitions s :=
  definitions_of_touches (touches_setConditions conditions) (by decide) s
@[simp] theorem definitions_handFlag (bit : Nat) (value : Bool) : definitions (handFlag bit value s) = definitions s :=
  definitions_of_touches (touches_handFlag bit value) (by decide) s
@[simp] theorem definitions_emptyList : definitions (emptyList s) = definitions s :=
  definitions_of_touches touches_emptyList (by decide) s

/-! ## The lamp field -/

@[simp] theorem definitions_setGenerator (g : Generator) (c : CadenceGenerator) :
    definitions (setGenerator g c s) = definitions s :=
  definitions_of_touches (touches_setGenerator g c) (by decide) s
@[simp] theorem definitions_takeUpWaiting (g : Generator) : definitions (takeUpWaiting g s) = definitions s := rfl
@[simp] theorem definitions_outputReport (cause : OutputCause) (ended : TestEnd) :
    definitions (outputReport cause ended s) = definitions s :=
  definitions_of_touches (touches_outputReport cause ended) (by decide) s
@[simp] theorem definitions_startTest (source : TestSource) : definitions (startTest source s) = definitions s :=
  definitions_of_touches (touches_startTest source) (by decide) s
@[simp] theorem definitions_endTest (cause : TestEnd) : definitions (endTest cause s) = definitions s :=
  definitions_of_touches (touches_endTest cause) (by decide) s
@[simp] theorem definitions_setOutput (o : OutputState) : definitions (setOutput o s) = definitions s :=
  definitions_of_touches (touches_setOutput o) (by decide) s
@[simp] theorem definitions_darknessChanged (cause : OutputCause) :
    definitions (darknessChanged cause s) = definitions s :=
  definitions_of_touches (touches_darknessChanged cause) (by decide) s
@[simp] theorem definitions_changeDim (d : DimState) : definitions (changeDim d s) = definitions s :=
  definitions_of_touches (touches_changeDim d) (by decide) s
@[simp] theorem definitions_setLampChannel (channel : Fin 24) (c : LampChannel) :
    definitions (setLampChannel channel c s) = definitions s := rfl
@[simp] theorem definitions_lampReport (channel : Fin 24) (before after : LampCondition) (cause current : Nat) :
    definitions (lampReport channel before after cause current s) = definitions s :=
  definitions_of_touches (touches_lampReport channel before after cause current) (by decide) s
@[simp] theorem definitions_conditionFaults (channel : Fin 24) (before after : LampCondition) (current : Nat) :
    definitions (conditionFaults channel before after current s) = definitions s :=
  definitions_of_touches (touches_conditionFaults channel before after current) (by decide) s

@[simp] theorem definitions_setDegraded (i : Fin 64) (value : Bool) :
    definitions (setDegraded i value s) = definitions s :=
  definitions_setSlot s rfl

@[simp] theorem definitions_assess (i : Fin 64) : definitions (assess s i) = definitions s := by
  simp only [assess]
  repeat' split
  all_goals simp

@[simp] theorem definitions_assessAll : definitions (assessAll s) = definitions s :=
  definitions_foldl definitions_assess _ s

@[simp] theorem definitions_takeSample (channel : Fin 24) (current : Nat) :
    definitions (takeSample channel current s) = definitions s := by
  simp only [takeSample]
  split <;> simp

/-! ## The Indication Table -/

@[simp] theorem definitions_deliver (i : Fin 64) (d : SlotDef) (content : Shown) :
    definitions (deliver i d content s) = definitions s :=
  definitions_of_touches (touches_deliver i d content) (by decide) s

@[simp] theorem definitions_present (i : Fin 64) (must flashing : Bool) :
    definitions (present i must flashing s) = definitions s := by
  simp only [present]
  split
  · split
    · rw [definitions_assess, definitions_deliver]
      exact definitions_setSlot s rfl
    · rfl
  · rfl

@[simp] theorem definitions_evaluateBand : definitions (evaluateBand s) = definitions s :=
  definitions_of_touches touches_evaluateBand (by decide) s
@[simp] theorem definitions_evaluateBandFor (i : Fin 64) : definitions (evaluateBandFor i s) = definitions s :=
  definitions_of_touches (touches_evaluateBandFor i) (by decide) s
@[simp] theorem definitions_requestBandLamp (on : Bool) : definitions (requestBandLamp on s) = definitions s :=
  definitions_of_touches (touches_requestBandLamp on) (by decide) s
@[simp] theorem definitions_slotReport (i : Fin 64) (cause : Option LapseCause) :
    definitions (slotReport i cause s) = definitions s :=
  definitions_of_touches (touches_slotReport i cause) (by decide) s
@[simp] theorem definitions_clearDegraded (i : Fin 64) (was : Bool) :
    definitions (clearDegraded i was s) = definitions s :=
  definitions_of_touches (touches_clearDegraded i was) (by decide) s
@[simp] theorem definitions_alarm (i : Fin 64) : definitions (alarm i s) = definitions s :=
  definitions_of_touches (touches_alarm i) (by decide) s
@[simp] theorem definitions_madeLive (i : Fin 64) (before : SlotState) :
    definitions (madeLive i before s) = definitions s :=
  definitions_of_touches (touches_madeLive i before) (by decide) s
@[simp] theorem definitions_recoverPair (before : State) (pair : Nat × Word) :
    definitions (recoverPair before s pair) = definitions s :=
  definitions_of_touches (touches_recoverPair before pair) (by decide) s

@[simp] theorem definitions_lapse (i : Fin 64) (cause : LapseCause) :
    definitions (lapse i cause s) = definitions s := by
  simp only [lapse, definitions_evaluateBandFor, definitions_present, definitions_alarm, definitions_clearDegraded,
    definitions_slotReport]
  exact definitions_setSlot s rfl

@[simp] theorem definitions_effectMonitorExpiry (i : Fin 64) :
    definitions (effectMonitorExpiry i s) = definitions s := by
  unfold effectMonitorExpiry
  split
  · split <;> simp
  · rfl
  · rfl

@[simp] theorem definitions_writeSlotZero (speed : Option Nat) :
    definitions (writeSlotZero speed s) = definitions s := by
  have written (value : Word) : definitions (s.setSlot 0 (s.table[(0 : Fin 64)].live value 5 s.now .stopped none))
      = definitions s := definitions_setSlot s rfl
  simp only [writeSlotZero]
  split
  · split
    · exact written _
    · simp only [definitions_evaluateBand, definitions_present, definitions_madeLive]
      exact written _
  · split <;> simp

theorem definitions_applyPair (source : Nat) (pair : Nat × Word) :
    definitions (applyPair source s pair) = definitions s := by
  unfold applyPair
  split
  · exact definitions_setSlot s rfl
  · rfl

theorem definitions_presentPair (before : State) (pair : Nat × Word) :
    definitions (presentPair before s pair) = definitions s := by
  simp only [presentPair]
  split
  · split <;> simp
  · rfl

@[simp] theorem definitions_applyPairs (source : Nat) (pairs : List (Nat × Word)) :
    definitions (applyPairs source pairs s) = definitions s := by
  have presented : definitions (pairs.foldl (presentPair s)
      (pairs.foldl (recoverPair s) (pairs.foldl (applyPair source) s))) = definitions s := by
    rw [definitions_foldl (fun t a => definitions_presentPair t s a),
      definitions_foldl (fun t a => definitions_recoverPair t s a),
      definitions_foldl (fun t a => definitions_applyPair t source a)]
  simp only [applyPairs]
  split
  · rw [definitions_evaluateBand, presented]
  · exact presented

theorem cleared_definition (lapses : Nat) (x : Slot) : (x.cleared lapses).definition = x.definition := by
  unfold Slot.cleared
  split <;> rfl

@[simp] theorem definitions_startTable : definitions (startTable s) = definitions s :=
  definitions_mapTable s (cleared_definition 0)

@[simp] theorem definitions_leaveTable : definitions (leaveTable s) = definitions s :=
  definitions_mapTable s (fun x => cleared_definition x.lapses x)

@[simp] theorem definitions_zeroLapses : definitions (zeroLapses s) = definitions s :=
  definitions_mapTable s (fun _ => rfl)

@[simp] theorem definitions_presentAll : definitions (presentAll s) = definitions s := by
  rw [presentAll, definitions_requestBandLamp]
  exact definitions_foldl (fun t i => definitions_present t i true false) _ s

/-! ## Changeover control -/

@[simp] theorem definitions_changeoverReport (event : ChangeoverEvent) (t : Transit) (elapsed : Time)
    (slots cause : Nat) : definitions (changeoverReport event t elapsed slots cause s) = definitions s :=
  definitions_of_touches (touches_changeoverReport event t elapsed slots cause) (by decide) s
@[simp] theorem definitions_endTransit : definitions (endTransit s) = definitions s :=
  definitions_of_touches touches_endTransit (by decide) s
@[simp] theorem definitions_clearIncomplete : definitions (clearIncomplete s) = definitions s :=
  definitions_of_touches touches_clearIncomplete (by decide) s
@[simp] theorem definitions_supersede : definitions (supersede s) = definitions s :=
  definitions_of_touches touches_supersede (by decide) s

theorem definitions_enterTransit (i : Fin 64) : definitions (enterTransit s i) = definitions s := by
  simp only [enterTransit, definitions_present, definitions_clearDegraded]
  exact definitions_setSlot s rfl

theorem definitions_releaseSlot (i : Fin 64) : definitions (releaseSlot s i) = definitions s := by
  simp only [releaseSlot, definitions_present]
  exact definitions_setSlot s rfl

@[simp] theorem definitions_completeByLastSlot : definitions (completeByLastSlot s) = definitions s := by
  unfold completeByLastSlot
  split
  · split <;> simp
  · rfl

@[simp] theorem definitions_completeByFlag (source : Nat) : definitions (completeByFlag source s) = definitions s := by
  unfold completeByFlag
  split
  · split
    · simp [definitions_foldl definitions_releaseSlot]
    · rfl
  · rfl

@[simp] theorem definitions_startChangeover (target window : Nat) :
    definitions (startChangeover target window s) = definitions s := by
  simp [startChangeover, definitions_foldl definitions_enterTransit]

@[simp] theorem definitions_afterUpdate (source : Nat) (complete live : Bool) :
    definitions (afterUpdate source complete live s) = definitions s := by
  simp only [afterUpdate]
  repeat' split
  all_goals simp

@[simp] theorem definitions_effectChangeoverWindowExpiry :
    definitions (effectChangeoverWindowExpiry s) = definitions s := by
  unfold effectChangeoverWindowExpiry
  split
  · split
    · simp [definitions_foldl (fun t i => definitions_lapse t i .window)]
    · rfl
  · rfl

/-! ## The speed unit -/

@[simp] theorem definitions_applyPendingWheel : definitions (applyPendingWheel s) = definitions s :=
  definitions_of_touches touches_applyPendingWheel (by decide) s
@[simp] theorem definitions_closeWindows (r : ChannelWindow × ChannelWindow) :
    definitions (closeWindows r s) = definitions s :=
  definitions_of_touches (touches_closeWindows r) (by decide) s
@[simp] theorem definitions_compareChannels (r : ChannelWindow × ChannelWindow) :
    definitions (compareChannels r s) = definitions s :=
  definitions_of_touches (touches_compareChannels r) (by decide) s
@[simp] theorem definitions_judgeReference : definitions (judgeReference s) = definitions s :=
  definitions_of_touches touches_judgeReference (by decide) s
@[simp] theorem definitions_checkReference (comparison : Option (Nat × Nat)) :
    definitions (checkReference comparison s) = definitions s :=
  definitions_of_touches (touches_checkReference comparison) (by decide) s
@[simp] theorem definitions_writeSelection (chosen : Selection × Option Nat) :
    definitions (writeSelection chosen s) = definitions s := by
  simp [writeSelection]
@[simp] theorem definitions_showDirection (d : Direction) : definitions (showDirection d s) = definitions s :=
  definitions_of_touches (touches_showDirection d) (by decide) s
@[simp] theorem definitions_updateStandstill (displayed : Option Nat) :
    definitions (updateStandstill displayed s) = definitions s :=
  definitions_of_touches (touches_updateStandstill displayed) (by decide) s
@[simp] theorem definitions_storeWindow (r : ChannelWindow × ChannelWindow) (comparison : Option (Nat × Nat)) :
    definitions (storeWindow r comparison s) = definitions s := rfl
@[simp] theorem definitions_reportWindow (r : ChannelWindow × ChannelWindow) :
    definitions (reportWindow r s) = definitions s :=
  definitions_of_touches (touches_reportWindow r) (by decide) s

@[simp] theorem definitions_windowEnds : definitions (windowEnds s) = definitions s := by
  simp [windowEnds]

@[simp] theorem definitions_effectWindowEnd : definitions (effectWindowEnd s) = definitions s := by
  unfold effectWindowEnd
  split
  · split <;> simp
  · rfl

@[simp] theorem definitions_effectWheelPhaseChange (id : WheelId) (new : Bool × Bool) :
    definitions (effectWheelPhaseChange id new s) = definitions s := by
  have moved : definitions (setPins id new s) = definitions s := by cases id <;> rfl
  simp only [effectWheelPhaseChange]
  split
  · rw [← moved]
    simp only [decodePair]
    repeat' split
    all_goals rfl
  · exact moved

end

end Sys2Proof.Proofs
end

section
/-! Slot 0 has a fixed definition (R3): what each order and each timer, pin and sample row does to the definitions, and
the invariant of every command. -/

namespace Sys2Proof.Proofs

open Sys2Proof Sys2Proof.Machine Sys2Proof.Safety Sys2Proof.Laws

/-! ## Orders -/

/-- Checks in front of an effect that keeps the definitions keep them: a refusal is a reply alone. -/
theorem definitions_checked {effect : State → State} (h : ∀ s, definitions (effect s) = definitions s)
    (k : OrderKind) (l : Link) (checks : List Check) (s : State) :
    definitions (checked k l checks effect s) = definitions s := by
  unfold checked
  split
  · exact definitions_refuse s k l _ _
  · exact h s

section
variable (l : Link) (p : List Byte) (s : State)

theorem definitions_ownDefineAspect : definitions (ownDefineAspect l p s) = definitions s := by
  refine definitions_checked (fun s => ?_) _ _ _ s
  simp only [defineAspectEffect]
  repeat' split
  all_goals simp

theorem definitions_ownDefineFault : definitions (ownDefineFault l p s) = definitions s := by
  refine definitions_checked (fun s => ?_) _ _ _ s
  simp only [defineFaultEffect]
  repeat' split
  all_goals simp

theorem definitions_ownSetSpeedParameters : definitions (ownSetSpeedParameters l p s) = definitions s :=
  definitions_checked (fun s => by simp) _ _ _ s

theorem definitions_ownSetLampChannel : definitions (ownSetLampChannel l p s) = definitions s := by
  refine definitions_checked (fun s => ?_) _ _ _ s
  split <;> simp

theorem definitions_ownSetCadence : definitions (ownSetCadence l p s) = definitions s :=
  definitions_checked (fun s => by simp) _ _ _ s

theorem definitions_ownSetKey : definitions (ownSetKey l p s) = definitions s := by
  refine definitions_checked (fun s => ?_) _ _ _ s
  split
  · simp [putKey]
  · rfl

theorem definitions_takeUp : definitions (takeUp l s) = definitions s := by
  simp only [takeUp]
  repeat' split
  all_goals simp

theorem definitions_ownSetLink : definitions (ownSetLink l p s) = definitions s :=
  definitions_checked (fun s => by simp [definitions_takeUp]) _ _ _ s

theorem definitions_ownSetGeneral : definitions (ownSetGeneral l p s) = definitions s :=
  definitions_checked (fun s => by simp) _ _ _ s

@[simp] theorem definitions_setMonitors (m : LinkMonitor) : definitions (setMonitors m s) = definitions s := rfl
@[simp] theorem definitions_clearLamps : definitions (clearLamps s) = definitions s := rfl
@[simp] theorem definitions_clearDesk : definitions (clearDesk s) = definitions s := rfl

theorem definitions_startBlocks : definitions (startBlocks s) = definitions s := by
  simp [startBlocks, startKeys, startList, startSpeed, startChangeoverControl]

theorem definitions_raiseDip : definitions (raiseDip s) = definitions s := by
  unfold raiseDip
  split <;> simp

theorem definitions_startEffect : definitions (startEffect s) = definitions s := by
  simp [startEffect, definitions_raiseDip, chooseOutput, beginGenerator, definitions_startBlocks]

theorem definitions_ownStart : definitions (ownStart l s) = definitions s := by
  unfold ownStart
  split <;> simp [definitions_startEffect]

theorem definitions_leaveBlocks : definitions (leaveBlocks s) = definitions s := by
  simp [leaveBlocks, leaveKeys, leaveConditions, leaveSpeed, abortTransit]

theorem definitions_clearRecords : definitions (clearRecords s) = definitions s := definitions_zeroLapses s

theorem definitions_ownStop : definitions (ownStop l s) = definitions s := by
  have reported (s : State) : definitions (reportAbort s) = definitions s := by
    unfold reportAbort
    split <;> simp
  simp [ownStop, definitions_leaveBlocks, reported]

theorem definitions_ownRestart : definitions (ownRestart l s) = definitions s := by
  simp only [ownRestart, definitions_conclude, definitions_beginRefresh, definitions_markAll, definitions_clearRecords,
    definitions_leaveBlocks, definitions_accept]
  rfl

theorem definitions_holdReceivers (placed : Bool) : definitions (holdReceivers placed s) = definitions s := by
  cases placed <;> rfl

theorem definitions_ownSleep (lines : Lines) : definitions (ownSleep l lines s) = definitions s := by
  unfold ownSleep
  split
  · exact definitions_queueFrame s l _
  · exact definitions_queueFrame s l _
  · simp only [definitions_conclude, definitions_holdReceivers, definitions_zeroLapses]
    split <;> simp [definitions_leaveBlocks]

theorem definitions_ownUpdate : definitions (ownUpdate l p s) = definitions s :=
  definitions_checked (fun s => by simp) _ _ _ s

theorem keptAlive_definition (source : Nat) (x : Slot) : (s.keptAlive source x).definition = x.definition := by
  unfold State.keptAlive
  split <;> rfl

theorem definitions_ownKeepAlive : definitions (ownKeepAlive l p s) = definitions s :=
  definitions_checked (fun s => by
    rw [definitions_accept, definitions_mapTable s (keptAlive_definition s (natAt p 0))]) _ _ _ s

theorem definitions_ownRaiseFault : definitions (ownRaiseFault l p s) = definitions s := by
  refine definitions_checked (fun s => ?_) _ _ _ s
  simp only [definitions_kickPanel, definitions_takeRaise]
  split <;> simp

theorem definitions_ownClearFault : definitions (ownClearFault l p s) = definitions s := by
  refine definitions_checked (fun s => ?_) _ _ _ s
  split <;> simp

theorem definitions_ownAcknowledgeFault : definitions (ownAcknowledgeFault l p s) = definitions s := by
  refine definitions_checked (fun s => ?_) _ _ _ s
  simp only []
  repeat' split
  all_goals simp

theorem definitions_ownSetConditions : definitions (ownSetConditions l p s) = definitions s := by
  simp [ownSetConditions]

theorem definitions_ownChangeover : definitions (ownChangeover l p s) = definitions s := by
  refine definitions_checked (fun s => ?_) _ _ _ s
  simp only []
  split <;> simp

theorem definitions_ownReferenceSpeed : definitions (ownReferenceSpeed l p s) = definitions s :=
  definitions_checked (fun s => by simp) _ _ _ s

theorem definitions_ownSetWheel : definitions (ownSetWheel l p s) = definitions s := by
  refine definitions_checked (fun s => ?_) _ _ _ s
  repeat' split
  all_goals simp

theorem definitions_ownSetDim : definitions (ownSetDim l p s) = definitions s :=
  definitions_checked (fun s => by simp) _ _ _ s

theorem definitions_ownLampTest : definitions (ownLampTest l p s) = definitions s := by
  refine definitions_checked (fun s => ?_) _ _ _ s
  simp only []
  repeat' split
  all_goals simp

theorem definitions_ownLampReset : definitions (ownLampReset l p s) = definitions s := by
  refine definitions_checked (fun s => ?_) _ _ _ s
  simp only []
  repeat' split
  all_goals simp

theorem definitions_ownResumeOutputs : definitions (ownResumeOutputs l s) = definitions s := by
  unfold ownResumeOutputs
  split <;> simp

theorem definitions_ownClearSpeedFlags : definitions (ownClearSpeedFlags l p s) = definitions s :=
  definitions_checked (fun s => by simp) _ _ _ s

theorem definitions_ownQuerySlot : definitions (ownQuerySlot l p s) = definitions s := by
  refine definitions_checked (fun s => ?_) _ _ _ s
  split
  · exact definitions_queueFrame _ l _
  · rfl

theorem definitions_ownQueryFaults : definitions (ownQueryFaults l p s) = definitions s :=
  definitions_checked (fun s => by simp) _ _ _ s

/-- Every order but DEFINE SLOT keeps the definitions. -/
theorem definitions_runOwner {k : OrderKind} (other : k ≠ .defineSlot) (lines : Lines) :
    definitions (runOwner k l p lines s) = definitions s := by
  cases k with
  | defineSlot => exact absurd rfl other
  | defineAspect => exact definitions_ownDefineAspect l p s
  | defineFault => exact definitions_ownDefineFault l p s
  | setSpeedParameters => exact definitions_ownSetSpeedParameters l p s
  | setLampChannel => exact definitions_ownSetLampChannel l p s
  | setCadence => exact definitions_ownSetCadence l p s
  | setKey => exact definitions_ownSetKey l p s
  | setLink => exact definitions_ownSetLink l p s
  | setGeneral => exact definitions_ownSetGeneral l p s
  | start => exact definitions_ownStart l s
  | stop => exact definitions_ownStop l s
  | restart => exact definitions_ownRestart l s
  | sleep => exact definitions_ownSleep l s lines
  | update => exact definitions_ownUpdate l p s
  | keepAlive => exact definitions_ownKeepAlive l p s
  | raiseFault => exact definitions_ownRaiseFault l p s
  | clearFault => exact definitions_ownClearFault l p s
  | acknowledgeFault => exact definitions_ownAcknowledgeFault l p s
  | setConditions => exact definitions_ownSetConditions l p s
  | changeover => exact definitions_ownChangeover l p s
  | referenceSpeed => exact definitions_ownReferenceSpeed l p s
  | setWheel => exact definitions_ownSetWheel l p s
  | setDim => exact definitions_ownSetDim l p s
  | lampTest => exact definitions_ownLampTest l p s
  | lampReset => exact definitions_ownLampReset l p s
  | resumeOutputs => exact definitions_ownResumeOutputs l s
  | clearSpeedFlags => exact definitions_ownClearSpeedFlags l p s
  | queryStatus => exact definitions_queueFrame s l _
  | querySlot => exact definitions_ownQuerySlot l p s
  | queryFaults => exact definitions_ownQueryFaults l p s
  | queryCounters => exact definitions_queueFrame s l _
  | querySpeed => exact definitions_queueFrame s l _

end

/-! ## Timers, pins and samples -/

section
variable (l : Link) (s : State)

theorem definitions_countError (e : LineError) : definitions (countError l e s) = definitions s :=
  definitions_setPort s l _

theorem definitions_effectGapError : definitions (effectGapError l s) = definitions s := by
  unfold effectGapError
  split
  · exact definitions_countError l s .gap
  · rfl

theorem definitions_effectBreak : definitions (effectBreak l s) = definitions s := by
  simp only [effectBreak, definitions_setPort]
  split
  · exact definitions_countError l s .lineBreak
  · rfl

theorem definitions_effectFrameSent : definitions (effectFrameSent l s) = definitions s := by
  have dormant (s : State) : definitions (enterDormant s) = definitions s := rfl
  simp only [effectFrameSent]
  repeat' split
  all_goals simp [dormant, definitions_takeUp]

theorem definitions_effectLinkIntervalExpiry : definitions (effectLinkIntervalExpiry l s) = definitions s := by
  have ends : definitions (intervalEnds l s) = definitions s := by
    simp only [intervalEnds, linkVerdict]
    repeat' split
    all_goals simp
  unfold effectLinkIntervalExpiry
  split
  · rw [definitions_kickPanel, ends]
  · rfl

theorem definitions_effectPeriodStart (g : Generator) : definitions (effectPeriodStart g s) = definitions s := by
  have turned (s : State) : definitions (turnTestColour g s) = definitions s := by
    unfold turnTestColour
    split <;> simp
  have restored (s : State) : definitions (restoreAt g s) = definitions s := by
    unfold restoreAt
    split <;> simp
  unfold effectPeriodStart
  split
  · split <;> simp [turned, restored]
  · rfl

theorem definitions_effectSwitchingEnd (pair : Fin 12) : definitions (effectSwitchingEnd pair s) = definitions s := by
  unfold effectSwitchingEnd
  split <;> simp

theorem definitions_effectLampSample (channel : Fin 24) (current : Nat) :
    definitions (effectLampSample channel current s) = definitions s := by
  unfold effectLampSample
  split <;> simp

theorem definitions_effectLampTestLimit : definitions (effectLampTestLimit s) = definitions s := by
  unfold effectLampTestLimit
  split <;> simp

theorem definitions_effectDeskDarkLineChange (asserted : Bool) :
    definitions (effectDeskDarkLineChange asserted s) = definitions s := by
  unfold effectDeskDarkLineChange
  split <;> rfl

theorem definitions_effectDeskDarkTaken : definitions (effectDeskDarkTaken s) = definitions s := by
  unfold effectDeskDarkTaken
  split <;> simp

theorem definitions_handSupply (state : SupplyState) : definitions (handSupply state s) = definitions s := by
  simp [handSupply]

theorem definitions_effectDipEntry : definitions (effectDipEntry s) = definitions s := by
  simp only [effectDipEntry]
  repeat' split
  all_goals simp [definitions_handSupply]

theorem definitions_effectDipEnd : definitions (effectDipEnd s) = definitions s := by
  simp only [effectDipEnd]
  repeat' split
  all_goals simp [definitions_handSupply]

theorem definitions_effectSupplyDipLevelCrossing (below : Bool) :
    definitions (effectSupplyDipLevelCrossing below s) = definitions s := by
  unfold effectSupplyDipLevelCrossing
  split <;> rfl

theorem definitions_effectKeyScan (samples : Vector (BitVec 12) 6) :
    definitions (effectKeyScan samples s) = definitions s := by
  unfold effectKeyScan
  split
  · split
    · exact definitions_of_touches (touches_scanKeys samples _) (by decide) _
    · rfl
  · rfl

theorem definitions_effectStuckTimerExpiry (i : Fin 6) : definitions (effectStuckTimerExpiry i s) = definitions s := by
  have reported (s : State) : definitions (keyReport i .stuck false s) = definitions s :=
    definitions_of_touches (touches_keyReport i .stuck false) (by decide) s
  simp only [effectStuckTimerExpiry]
  split
  · split
    · simp [reported, putKey]
    · rfl
  · rfl

theorem definitions_effectMeterTargetReached : definitions (effectMeterTargetReached s) = definitions s := by
  unfold effectMeterTargetReached
  split <;> rfl

theorem definitions_effectPanelRefreshExpiry : definitions (effectPanelRefreshExpiry s) = definitions s := by
  unfold effectPanelRefreshExpiry
  split
  · split <;> simp
  · rfl

theorem definitions_effectPanelFrameEnd : definitions (effectPanelFrameEnd s) = definitions s := by
  unfold effectPanelFrameEnd
  split <;> simp

theorem definitions_wakeRetain : definitions (wakeRetain l s) = definitions s := by
  simp only [wakeRetain, phaseReport, definitions_conclude, definitions_report, definitions_beginRefresh,
    definitions_markAll, definitions_setPort, definitions_clearRecords]
  rfl

end

/-! ## The invariant of slot 0 (R3) -/

/-- Slot 0 holds the definition of a full reset. -/
def slotZeroFixed (s : State) : Prop := s.table[(0 : Fin 64)].definition = State.reset.table[(0 : Fin 64)].definition

theorem slotZeroFixed_of_definitions {s t : State} (same : definitions t = definitions s) (h : slotZeroFixed s) :
    slotZeroFixed t := by
  unfold slotZeroFixed
  rw [← definitions_getElem, same, definitions_getElem]
  exact h

/-- A DEFINE SLOT that names slot 0 fails its first check. -/
theorem firstFailure_defineSlotChecks_zero {p : List Byte} (zero : natAt p 0 = 0) :
    firstFailure (defineSlotChecks p) = some (.reservedSlot, 1) := by
  simp only [defineSlotChecks]
  split <;> simp [firstFailure, zero]

/-- DEFINE SLOT replaces the slot it names, which its checks let be any but slot 0. -/
theorem slotZeroFixed_ownDefineSlot {s : State} (h : slotZeroFixed s) (l : Link) (p : List Byte) :
    slotZeroFixed (ownDefineSlot l p s) := by
  by_cases zero : natAt p 0 = 0
  · unfold ownDefineSlot
    rw [checked_refused _ _ (firstFailure_defineSlotChecks_zero zero)]
    exact slotZeroFixed_of_definitions (definitions_refuse s _ l _ _) h
  · unfold ownDefineSlot checked
    split
    · exact slotZeroFixed_of_definitions (definitions_refuse s _ l _ _) h
    · split
      · rename_i bound
        refine slotZeroFixed_of_definitions (definitions_accept _ _ l) ?_
        unfold slotZeroFixed
        rw [setSlot_table_other s _ 0 _ (fun same => zero (congrArg Fin.val same).symm)]
        exact h
      · exact h

theorem slotZeroFixed_runOwner {s : State} (h : slotZeroFixed s) (k : OrderKind) (l : Link) (p : List Byte)
    (lines : Lines) : slotZeroFixed (runOwner k l p lines s) := by
  by_cases defines : k = .defineSlot
  · subst defines
    exact slotZeroFixed_ownDefineSlot h l p
  · exact slotZeroFixed_of_definitions (definitions_runOwner l p s defines lines) h

theorem slotZeroFixed_handTo {s : State} (h : slotZeroFixed s) (k : OrderKind) (l : Link) (p : List Byte)
    (lines : Lines) : slotZeroFixed (handTo k l p (runOwner k l p lines) s) := by
  unfold handTo
  split
  · exact slotZeroFixed_of_definitions (definitions_refuse s k l _ 0) h
  · exact slotZeroFixed_runOwner h k l p lines

theorem slotZeroFixed_takeOrder {s : State} (h : slotZeroFixed s) (k : OrderKind) (l : Link) (p : List Byte)
    (lines : Lines) : slotZeroFixed (takeOrder k l p (runOwner k l p lines) s) := by
  unfold takeOrder
  split
  · exact slotZeroFixed_handTo (slotZeroFixed_of_definitions (definitions_frameHeard s l) h) k l p lines
  · exact h

/-- A byte received leaves the table to the order that it completes. -/
theorem slotZeroFixed_takeGoodByte {s : State} (h : slotZeroFixed s) (l : Link) (data : Byte) (lines : Lines) :
    slotZeroFixed (takeGoodByte l data lines s) := by
  have received (r : Receiver) : slotZeroFixed (setReceiver l r s) :=
    slotZeroFixed_of_definitions (definitions_setPort s l _) h
  have counted (e : LineError) : slotZeroFixed (countError l e s) :=
    slotZeroFixed_of_definitions (definitions_countError l s e) h
  simp only [takeGoodByte]
  split
  · split
    · exact received _
    · exact h
  · split
    · exact received _
    · exact counted _
  · exact received _
  · exact received _
  · split
    · unfold handOver
      split
      · exact slotZeroFixed_handTo (received _) _ l _ lines
      · exact slotZeroFixed_of_definitions (definitions_queueFrame _ l _) (received _)
    · exact counted _

theorem slotZeroFixed_effectReceiveByte {s : State} (h : slotZeroFixed s) (l : Link) (data : Byte)
    (parityBit stopBit : Bool) (lines : Lines) :
    slotZeroFixed (effectReceiveByte l data parityBit stopBit lines s) := by
  unfold effectReceiveByte
  split
  · have after : slotZeroFixed (s.setPort l ((s.port l).afterByte stopBit)) :=
      slotZeroFixed_of_definitions (definitions_setPort s l _) h
    have counted (e : LineError) : slotZeroFixed (countError l e (s.setPort l ((s.port l).afterByte stopBit))) :=
      slotZeroFixed_of_definitions (definitions_countError l _ e) after
    simp only [takeByte]
    split
    · split
      · exact after
      · exact slotZeroFixed_takeGoodByte after l data lines
    · split
      · exact counted _
      · split
        · exact counted _
        · exact slotZeroFixed_takeGoodByte after l data lines
  · exact h

/-- A full reset puts the fixed definition back. -/
theorem slotZeroFixed_asCleared (s : State) : slotZeroFixed s.asCleared := rfl

theorem slotZeroFixed_releaseReset (s : State) (cause : PhaseCause) (wake : Nat) :
    slotZeroFixed (releaseReset cause wake s) := by
  refine slotZeroFixed_of_definitions ?_ (slotZeroFixed_asCleared s)
  simp only [releaseReset, phaseReport, definitions_conclude, definitions_report, definitions_beginRefresh]
  rfl

theorem slotZeroFixed_effectFullReset (s : State) (cause : ResetCause) : slotZeroFixed (effectFullReset cause s) := by
  simp only [effectFullReset]
  split <;> rfl

theorem slotZeroFixed_effectResetRelease {s : State} (h : slotZeroFixed s) (cause : ResetCause) :
    slotZeroFixed (effectResetRelease cause s) := by
  simp only [effectResetRelease]
  split
  · exact slotZeroFixed_releaseReset _ _ _
  · exact h

theorem slotZeroFixed_effectWake {s : State} (h : slotZeroFixed s) (l : Link) : slotZeroFixed (effectWake l s) := by
  unfold effectWake
  split
  · split
    · exact slotZeroFixed_of_definitions (definitions_wakeRetain l s) h
    · exact slotZeroFixed_of_definitions (definitions_setPort _ l _) (slotZeroFixed_releaseReset s _ _)
  · exact h

/-- Every command keeps the fixed definition of slot 0. -/
theorem exec_keeps_slotZeroFixed {s : State} (h : slotZeroFixed s) (c : Instr) :
    ∃ t, exec c s = .next t ∧ slotZeroFixed t := by
  have order (k : OrderKind) (l : Link) (p : List Byte) := slotZeroFixed_takeOrder h k l p ⟨false, false⟩
  have same {t : State} (kept : definitions t = definitions s) : slotZeroFixed t := slotZeroFixed_of_definitions kept h
  cases c with
  | defineSlot l p => exact ⟨_, rfl, order .defineSlot l p⟩
  | defineAspect l p => exact ⟨_, rfl, order .defineAspect l p⟩
  | defineFault l p => exact ⟨_, rfl, order .defineFault l p⟩
  | setSpeedParameters l p => exact ⟨_, rfl, order .setSpeedParameters l p⟩
  | setLampChannel l p => exact ⟨_, rfl, order .setLampChannel l p⟩
  | setCadence l p => exact ⟨_, rfl, order .setCadence l p⟩
  | setKey l p => exact ⟨_, rfl, order .setKey l p⟩
  | setLink l p => exact ⟨_, rfl, order .setLink l p⟩
  | setGeneral l p => exact ⟨_, rfl, order .setGeneral l p⟩
  | start l p => exact ⟨_, rfl, order .start l p⟩
  | stop l p => exact ⟨_, rfl, order .stop l p⟩
  | restart l p => exact ⟨_, rfl, order .restart l p⟩
  | sleep l p lines => exact ⟨_, rfl, slotZeroFixed_takeOrder h .sleep l p lines⟩
  | update l p => exact ⟨_, rfl, order .update l p⟩
  | keepAlive l p => exact ⟨_, rfl, order .keepAlive l p⟩
  | raiseFault l p => exact ⟨_, rfl, order .raiseFault l p⟩
  | clearFault l p => exact ⟨_, rfl, order .clearFault l p⟩
  | acknowledgeFault l p => exact ⟨_, rfl, order .acknowledgeFault l p⟩
  | setConditions l p => exact ⟨_, rfl, order .setConditions l p⟩
  | changeover l p => exact ⟨_, rfl, order .changeover l p⟩
  | referenceSpeed l p => exact ⟨_, rfl, order .referenceSpeed l p⟩
  | setWheel l p => exact ⟨_, rfl, order .setWheel l p⟩
  | setDim l p => exact ⟨_, rfl, order .setDim l p⟩
  | lampTest l p => exact ⟨_, rfl, order .lampTest l p⟩
  | lampReset l p => exact ⟨_, rfl, order .lampReset l p⟩
  | resumeOutputs l p => exact ⟨_, rfl, order .resumeOutputs l p⟩
  | clearSpeedFlags l p => exact ⟨_, rfl, order .clearSpeedFlags l p⟩
  | queryStatus l p => exact ⟨_, rfl, order .queryStatus l p⟩
  | querySlot l p => exact ⟨_, rfl, order .querySlot l p⟩
  | queryFaults l p => exact ⟨_, rfl, order .queryFaults l p⟩
  | queryCounters l p => exact ⟨_, rfl, order .queryCounters l p⟩
  | querySpeed l p => exact ⟨_, rfl, order .querySpeed l p⟩
  | receiveByte l data parityBit stopBit lines =>
    exact ⟨_, rfl, slotZeroFixed_effectReceiveByte h l data parityBit stopBit lines⟩
  | gapError l => exact ⟨_, rfl, same (definitions_effectGapError l s)⟩
  | lineBreak l => exact ⟨_, rfl, same (definitions_effectBreak l s)⟩
  | frameSent l => exact ⟨_, rfl, same (definitions_effectFrameSent l s)⟩
  | linkIntervalExpiry l => exact ⟨_, rfl, same (definitions_effectLinkIntervalExpiry l s)⟩
  | monitorExpiry slot => exact ⟨_, rfl, same (definitions_effectMonitorExpiry s slot)⟩
  | changeoverWindowExpiry => exact ⟨_, rfl, same (definitions_effectChangeoverWindowExpiry s)⟩
  | wheelPhaseChange wheel phase1 phase2 =>
    exact ⟨_, rfl, same (definitions_effectWheelPhaseChange s wheel (phase1, phase2))⟩
  | windowEnd => exact ⟨_, rfl, same (definitions_effectWindowEnd s)⟩
  | periodStart generator => exact ⟨_, rfl, same (definitions_effectPeriodStart s generator)⟩
  | switchingEnd pair => exact ⟨_, rfl, same (definitions_effectSwitchingEnd s pair)⟩
  | lampSample channel current => exact ⟨_, rfl, same (definitions_effectLampSample s channel current)⟩
  | lampTestLimit => exact ⟨_, rfl, same (definitions_effectLampTestLimit s)⟩
  | deskDarkLineChange asserted => exact ⟨_, rfl, same (definitions_effectDeskDarkLineChange s asserted)⟩
  | deskDarkTaken => exact ⟨_, rfl, same (definitions_effectDeskDarkTaken s)⟩
  | dipEntry => exact ⟨_, rfl, same (definitions_effectDipEntry s)⟩
  | dipEnd => exact ⟨_, rfl, same (definitions_effectDipEnd s)⟩
  | fullReset cause => exact ⟨_, rfl, slotZeroFixed_effectFullReset s cause⟩
  | wake l => exact ⟨_, rfl, slotZeroFixed_effectWake h l⟩
  | keyScan samples => exact ⟨_, rfl, same (definitions_effectKeyScan s samples)⟩
  | stuckTimerExpiry key => exact ⟨_, rfl, same (definitions_effectStuckTimerExpiry s key)⟩
  | meterTargetReached => exact ⟨_, rfl, same (definitions_effectMeterTargetReached s)⟩
  | chimePatternEnd => exact ⟨_, rfl, same (definitions_effectChimePatternEnd s)⟩
  | panelRefreshExpiry => exact ⟨_, rfl, same (definitions_effectPanelRefreshExpiry s)⟩
  | panelFrameEnd => exact ⟨_, rfl, same (definitions_effectPanelFrameEnd s)⟩
  | supplyDipLevelCrossing below => exact ⟨_, rfl, same (definitions_effectSupplyDipLevelCrossing s below)⟩
  | resetRelease cause => exact ⟨_, rfl, slotZeroFixed_effectResetRelease h cause⟩
  | breakEnd l => exact ⟨_, rfl, same (definitions_setPort s l _)⟩

/-- The definition of slot 0 after a full reset (R3, R28). -/
theorem reset_slotZero_definition : State.reset.table[(0 : Fin 64)].definition
    = some ⟨BitVec.twoPow 8 5, 0, 16, .number none (some 0) (some (0, 4000)) 1, false⟩ := by
  decide

/-- Settles O21: the definition of a full reset, the invariant of every command, and the first check of DEFINE SLOT. -/
theorem slotZeroDefinitionIsFixed : Obligations.SlotZeroDefinitionIsFixed := by
  refine ⟨reset_slotZero_definition, fun c s t fixed run => ?_, fun l p s got zero => ?_⟩
  · obtain ⟨t', run', fixed'⟩ := exec_keeps_slotZeroFixed fixed c
    obtain rfl : t' = t := Host.Outcome.next.inj (run'.symm.trans run)
    exact fixed'.trans fixed.symm
  · have named : natAt p 0 = 0 := congrArg BitVec.toNat zero
    exact answers_refused got (exec_defineSlot l p s) (checked_refused _ _ (firstFailure_defineSlotChecks_zero named))

end Sys2Proof.Proofs
end

section
/-! DEFINE ASPECT on the aspect map (R32, R34): which keys the map holds after an entry is replaced, added or deleted,
the cases of the order's effect, and its replies. -/

namespace Sys2Proof.Proofs

open Sys2Proof Sys2Proof.Machine Sys2Proof.Safety Sys2Proof.Laws

/-! ## Orders that are accepted -/

/-- An order whose owning block changes some fields, neither the ports nor the clock among them, and answers ACCEPT: its
next state agrees with the changed one but for the reply. -/
theorem answers_accepted {c : Instr} {k : OrderKind} {l : Link} {p : List Byte} {s : State}
    {owner change : State → State} {fs : List Field} {post : State → Prop} (got : received k l p s = true)
    (run : exec c s = .next (takeOrder k l p owner s))
    (accepts : owner (frameHeard l s) = accept k l (change (frameHeard l s))) (touched : Touches fs change)
    (away : Field.clock ∉ fs ∧ Field.lp0 ∉ fs ∧ Field.lp1 ∉ fs)
    (holds : ∀ t : State, unchangedExcept [.lp0, .lp1] (change (frameHeard l s)) t → acceptedQuietly k l s t →
      unchangedExcept (.lp0 :: .lp1 :: fs) s t → post t) :
    answers c s post := by
  obtain ⟨clock, lp0, lp1⟩ := away
  refine ⟨_, run, ?_⟩
  rw [takeOrder_received _ got, accepts]
  have changed := touched (frameHeard l s)
  have replied := touches_accept k l (change (frameHeard l s))
  have ports : ([.lp0, .lp1] : List Field) ⊆ .lp0 :: .lp1 :: fs := by simp
  have rest : fs ⊆ .lp0 :: .lp1 :: fs := fun f mem => List.mem_cons_of_mem _ (List.mem_cons_of_mem _ mem)
  refine holds _ replied ?_ ?_
  · refine repliedWith_queueFrame_of_ports (received_enabled got)
      ((changed .clock clock).trans (clock_frameHeard l s)) fun m => ?_
    cases m
    · exact changed .lp0 lp0
    · exact changed .lp1 lp1
  · exact unchangedExcept_trans (unchangedExcept_mono (touches_frameHeard l s) ports)
      (unchangedExcept_trans (unchangedExcept_mono changed rest) (unchangedExcept_mono replied ports))

/-! ## The keys of the map (R32) -/

theorem findAspect_isSome_iff (system code : Nat) (m : List AspectEntry) :
    (findAspect system code m).isSome = true ↔ ∃ e, mapHolds m system code e := by
  simp [findAspect, mapHolds]

/-- The map with an entry in place of the one of its key. -/
def replaceAspect (entry : AspectEntry) (m : List AspectEntry) : List AspectEntry :=
  m.map (fun e => if e.system = entry.system ∧ e.code = entry.code then entry else e)

theorem replaceAspect_length (entry : AspectEntry) (m : List AspectEntry) :
    (replaceAspect entry m).length = m.length := List.length_map _

theorem mem_replaceAspect {entry e : AspectEntry} {m : List AspectEntry} :
    e ∈ replaceAspect entry m ↔ ∃ a ∈ m, (if a.system = entry.system ∧ a.code = entry.code then entry else a) = e :=
  List.mem_map

theorem mapHolds_replaceAspect {entry : AspectEntry} {m : List AspectEntry}
    (held : ∃ e, mapHolds m entry.system entry.code e) (e : AspectEntry) :
    mapHolds (replaceAspect entry m) entry.system entry.code e ↔ e = entry := by
  constructor
  · rintro ⟨mem, key⟩
    obtain ⟨a, -, rfl⟩ := mem_replaceAspect.mp mem
    split at key
    · next same => rw [if_pos same]
    · next other => exact absurd key other
  · rintro rfl
    obtain ⟨a, mem, key⟩ := held
    exact ⟨mem_replaceAspect.mpr ⟨a, mem, if_pos key⟩, rfl, rfl⟩

theorem mapsAgreeBut_replaceAspect (entry : AspectEntry) (m : List AspectEntry) :
    mapsAgreeBut m (replaceAspect entry m) entry.system entry.code := by
  intro e other
  constructor
  · intro mem
    obtain ⟨a, mem, rfl⟩ := mem_replaceAspect.mp mem
    split at other
    · exact absurd ⟨rfl, rfl⟩ other
    · next apart => rwa [if_neg apart]
  · exact fun mem => mem_replaceAspect.mpr ⟨e, mem, if_neg other⟩

theorem mapHolds_append_entry {entry : AspectEntry} {m : List AspectEntry}
    (absent : ¬ ∃ e, mapHolds m entry.system entry.code e) (e : AspectEntry) :
    mapHolds (m ++ [entry]) entry.system entry.code e ↔ e = entry := by
  constructor
  · rintro ⟨mem, key⟩
    rcases List.mem_append.mp mem with old | new
    · exact absurd ⟨e, old, key⟩ absent
    · exact List.mem_singleton.mp new
  · rintro rfl
    exact ⟨List.mem_append_right m (List.mem_singleton_self e), rfl, rfl⟩

theorem mapsAgreeBut_append_entry (entry : AspectEntry) (m : List AspectEntry) :
    mapsAgreeBut m (m ++ [entry]) entry.system entry.code := by
  intro e other
  have apart : e ≠ entry := by
    rintro rfl
    exact other ⟨rfl, rfl⟩
  simp [apart]

/-- Deleting the first entry of a key deletes the key, since no key stands twice. -/
theorem not_mapHolds_withoutAspect {m : List AspectEntry} (unique : (m.map (fun e => (e.system, e.code))).Nodup)
    (system code : Nat) (e : AspectEntry) : ¬ mapHolds (withoutAspect system code m) system code e := by
  rintro ⟨mem, key⟩
  induction m with
  | nil => exact List.not_mem_nil mem
  | cons a rest ih =>
    obtain ⟨fresh, unique⟩ := List.nodup_cons.mp unique
    unfold withoutAspect at mem
    by_cases named : a.system = system ∧ a.code = code
    · rw [List.eraseP_cons_of_pos (by simp [named])] at mem
      exact fresh (List.mem_map.mpr ⟨e, mem, by simp [named, key]⟩)
    · rw [List.eraseP_cons_of_neg (by simpa using named)] at mem
      rcases List.mem_cons.mp mem with rfl | later
      · exact named key
      · exact ih unique later

theorem mapsAgreeBut_withoutAspect (system code : Nat) (m : List AspectEntry) :
    mapsAgreeBut m (withoutAspect system code m) system code :=
  fun _ other => List.mem_eraseP_of_neg (by simpa using other)

/-! ## The effect of DEFINE ASPECT (R34) -/

/-- The entry that a DEFINE ASPECT record stands for. -/
def aspectEntryIn (p : List Byte) : AspectEntry := ⟨natAt p 0, natAt p 1, (byteAt p 3).toNat, patternRead p⟩

theorem patternSettings_eq_patternRead (p : List Byte) :
    (List.range (natAt p 4)).map (patternSettingIn p) = patternRead p := by
  have colour (n : Nat) : natAt p (6 + 3 * n) = 2 ↔ byteAt p (6 + 3 * n) = 2 := natAt_eq_iff p _ 2
  unfold patternRead patternSettingIn colourOf
  simp only [colour]
  rfl

section
variable {l : Link} {p : List Byte} {s : State}

/-- The table of R34, with the key read as held or not held. -/
theorem defineAspectEffect_eq : defineAspectEffect l p s =
    if natAt p 2 = 1 then
      if (findAspect (natAt p 0) (natAt p 1) s.aspects).isSome then
        accept .defineAspect l (s.setAspects (withoutAspect (natAt p 0) (natAt p 1) s.aspects))
      else refuse .defineAspect l .noEntry 2 s
    else if (findAspect (natAt p 0) (natAt p 1) s.aspects).isSome then
      accept .defineAspect l (s.setAspects (replaceAspect (aspectEntryIn p) s.aspects))
    else if s.aspects.length < 192 then accept .defineAspect l (s.setAspects (s.aspects ++ [aspectEntryIn p]))
    else refuse .defineAspect l .tableFull 2 s := by
  simp only [defineAspectEffect, patternSettings_eq_patternRead]
  rfl

variable {m : List AspectEntry}

theorem defineAspectEffect_deletes (map : s.aspects = m) (remove : natAt p 2 = 1)
    (held : ∃ e, mapHolds m (natAt p 0) (natAt p 1) e) :
    defineAspectEffect l p s = accept .defineAspect l (s.setAspects (withoutAspect (natAt p 0) (natAt p 1) m)) := by
  rw [defineAspectEffect_eq, map, if_pos remove, if_pos ((findAspect_isSome_iff _ _ _).mpr held)]

theorem defineAspectEffect_noEntry (map : s.aspects = m) (remove : natAt p 2 = 1)
    (absent : ¬ ∃ e, mapHolds m (natAt p 0) (natAt p 1) e) :
    defineAspectEffect l p s = refuse .defineAspect l .noEntry 2 s := by
  rw [defineAspectEffect_eq, map, if_pos remove, if_neg (mt (findAspect_isSome_iff _ _ _).mp absent)]

theorem defineAspectEffect_replaces (map : s.aspects = m) (keep : natAt p 2 ≠ 1)
    (held : ∃ e, mapHolds m (natAt p 0) (natAt p 1) e) :
    defineAspectEffect l p s = accept .defineAspect l (s.setAspects (replaceAspect (aspectEntryIn p) m)) := by
  rw [defineAspectEffect_eq, map, if_neg keep, if_pos ((findAspect_isSome_iff _ _ _).mpr held)]

theorem defineAspectEffect_adds (map : s.aspects = m) (keep : natAt p 2 ≠ 1)
    (absent : ¬ ∃ e, mapHolds m (natAt p 0) (natAt p 1) e) (room : m.length < 192) :
    defineAspectEffect l p s = accept .defineAspect l (s.setAspects (m ++ [aspectEntryIn p])) := by
  rw [defineAspectEffect_eq, map, if_neg keep, if_neg (mt (findAspect_isSome_iff _ _ _).mp absent), if_pos room]

theorem defineAspectEffect_tableFull (map : s.aspects = m) (keep : natAt p 2 ≠ 1)
    (absent : ¬ ∃ e, mapHolds m (natAt p 0) (natAt p 1) e) (full : m.length = 192) :
    defineAspectEffect l p s = refuse .defineAspect l .tableFull 2 s := by
  rw [defineAspectEffect_eq, map, if_neg keep, if_neg (mt (findAspect_isSome_iff _ _ _).mp absent),
    if_neg (by omega)]

end

/-! ## The order and its replies -/

theorem exec_defineAspect (l : Link) (p : List Byte) (s : State) :
    exec (.defineAspect l p) s = .next (takeOrder .defineAspect l p (ownDefineAspect l p) s) := rfl

theorem aspects_frameHeard (l : Link) (s : State) : (frameHeard l s).aspects = s.aspects := by simp [frameHeard]

theorem ownDefineAspect_passes {p : List Byte} (ok : passes (defineAspectChecks p)) (l : Link) (s : State) :
    ownDefineAspect l p s = defineAspectEffect l p s := checked_passes _ s ok

section
variable {l : Link} {p : List Byte} {s : State}

/-- A DEFINE ASPECT that stores a map answers ACCEPT and changes the map and the ports alone. -/
theorem answers_storing_map {m : List AspectEntry} {post : State → Prop} (got : received .defineAspect l p s = true)
    (ok : passes (defineAspectChecks p))
    (stores : defineAspectEffect l p (frameHeard l s) = accept .defineAspect l ((frameHeard l s).setAspects m))
    (holds : ∀ t : State, t.aspects = m → acceptedQuietly .defineAspect l s t →
      unchangedExcept [.lp0, .lp1, .aspects] s t → post t) :
    answers (.defineAspect l p) s post := by
  refine answers_accepted (change := fun u => u.setAspects m) got (exec_defineAspect l p s)
    ((ownDefineAspect_passes ok l _).trans stores) (fun u => unchanged_setAspects u m) (by decide) ?_
  exact fun t agrees replied frame => holds t (agrees .aspects (by decide)) replied frame

theorem answers_refusing_map {r : Reason} (got : received .defineAspect l p s = true)
    (ok : passes (defineAspectChecks p))
    (refuses : defineAspectEffect l p (frameHeard l s) = refuse .defineAspect l r 2 (frameHeard l s)) :
    answers (.defineAspect l p) s (fun t =>
      repliedWith (refuseFrame OrderKind.defineAspect.code r 2 0 0) l s t ∧ unchangedExcept [.lp0, .lp1] s t) :=
  answers_refused got (exec_defineAspect l p s) ((ownDefineAspect_passes ok l _).trans refuses)

end

/-- Settles O28: the table of R34 row by row, on the map as the hand-over leaves it. -/
theorem defineAspectActsOnMap : Obligations.DefineAspectActsOnMap := by
  rintro l p s _ _ held ⟨-, unique, -⟩ got ok rfl rfl isHeld
  have map := aspects_frameHeard l s
  have keeps (zero : byteAt p 2 = 0) : natAt p 2 ≠ 1 := by simp [natAt, zero]
  have removes (one : byteAt p 2 = 1) : natAt p 2 = 1 := congrArg BitVec.toNat one
  refine ⟨fun zero room => ?_, fun zero absent full => ?_, fun one present => ?_, fun one absent => ?_⟩
  · by_cases present : held
    · have found := isHeld.mp present
      refine answers_storing_map got ok (defineAspectEffect_replaces map (keeps zero) found) ?_
      intro t stored replied frame
      rw [stored]
      exact ⟨mapHolds_replaceAspect (entry := aspectEntryIn p) found, mapsAgreeBut_replaceAspect (aspectEntryIn p) _,
        fun _ => replaceAspect_length _ _, fun absent => absurd present absent, replied, frame⟩
    · have missing := mt isHeld.mpr present
      refine answers_storing_map got ok
        (defineAspectEffect_adds map (keeps zero) missing (room.resolve_left present)) ?_
      intro t stored replied frame
      rw [stored]
      exact ⟨mapHolds_append_entry (entry := aspectEntryIn p) missing, mapsAgreeBut_append_entry (aspectEntryIn p) _,
        fun held => absurd held present, fun _ => List.length_append, replied, frame⟩
  · exact answers_refusing_map got ok (defineAspectEffect_tableFull map (keeps zero) (mt isHeld.mpr absent) full)
  · refine answers_storing_map got ok (defineAspectEffect_deletes map (removes one) (isHeld.mp present)) ?_
    intro t stored replied frame
    rw [stored]
    exact ⟨not_mapHolds_withoutAspect unique _ _, mapsAgreeBut_withoutAspect _ _ _, replied, frame⟩
  · exact answers_refusing_map got ok (defineAspectEffect_noEntry map (removes one) (mt isHeld.mpr absent))

end Sys2Proof.Proofs
end

section
/-! The fault list as a run of raises and clears leaves it (R83 to R90): the entries and the dropped count as functions
of what the list reads, and the ties of the model's operations to them. -/

namespace Sys2Proof.Proofs

open Sys2Proof Sys2Proof.Machine Sys2Proof.Safety Sys2Proof.Laws

/-! ## The view of the list -/

/-- What the list reads as it takes a raise or a clear, beside its entries. -/
structure ListContext where
  phase : Phase
  now : Time
  catalogue : List CatalogueEntry
  conditions : Word

/-- The list as the acts of R87 see it. -/
structure ListView where
  context : ListContext
  entries : List Entry
  dropped : Nat

/-- The view a state gives of its list. -/
def listView (s : State) : ListView :=
  ⟨⟨s.phase, s.now, s.faults.catalogue, s.faults.conditions⟩, s.faults.entries, s.faults.dropped⟩

/-- The entry a raise creates (R84). -/
def ListContext.created (x : ListContext) (code origin : Nat) (parameter : Option Word) : Entry :=
  let treatment := treatmentOf x.catalogue code
  { code, origin, treatment
    state := if treatment.cls = .c then .activeAcked else .activeUnacked
    occurrences := 1, firstRaised := x.now, lastChange := x.now, parameter
    visible := visibleUnder x.conditions treatment.mask treatment.mtch }

/-- A held entry as a raise leaves it (R83). -/
def ListContext.reraised (x : ListContext) (e : Entry) (parameter : Option Word) : Entry :=
  { e with
    occurrences := saturate 255 e.occurrences, lastChange := x.now, parameter := parameter.or e.parameter
    state := if e.state = .clearedUnacked then .activeUnacked else e.state }

/-- A raise of a code and origin that no entry has (R84 to R86). -/
def ListView.enter (new : Entry) (v : ListView) : ListView :=
  if v.entries.length < Config.listCapacity then { v with entries := insertEntry new v.entries }
  else
    match evictionFor new.treatment.cls v.entries with
    | some victim => { v with entries := insertEntry new (withoutEntry victim v.entries) }
    | none => { v with dropped := saturate 65535 v.dropped }

/-- A raise (R83 to R86). -/
def ListView.raise (code origin : Nat) (parameter : Option Word) (v : ListView) : ListView :=
  match findEntry code origin v.entries with
  | some e => { v with entries := replaceEntry (v.context.reraised e parameter) v.entries }
  | none => v.enter (v.context.created code origin parameter)

/-- The clear of a held entry, by its state (R88). -/
def ListView.clearHeld (e : Entry) (v : ListView) : ListView :=
  match e.state with
  | .activeUnacked =>
    { v with entries := replaceEntry { e with state := .clearedUnacked, lastChange := v.context.now } v.entries }
  | .activeAcked => { v with entries := withoutEntry e v.entries }
  | .clearedUnacked => v

/-- A clear (R88, R90). -/
def ListView.clear (code origin : Nat) (v : ListView) : ListView :=
  match findEntry code origin v.entries with
  | some e => v.clearHeld e
  | none => v

/-- An act of a block, taken in RUNNING alone (R87). -/
def ListView.take (v : ListView) (act : FaultAct) : ListView :=
  if v.context.phase = .running then
    match act with
    | .raise code origin parameter => v.raise code origin parameter
    | .clear code origin => v.clear code origin
  else v

section
variable {v : ListView} {code origin : Nat} {new e : Entry}

theorem ListView.raise_of_held (held : findEntry code origin v.entries = some e) (parameter : Option Word) :
    v.raise code origin parameter = { v with entries := replaceEntry (v.context.reraised e parameter) v.entries } := by
  simp only [ListView.raise, held]

theorem ListView.raise_of_new (absent : findEntry code origin v.entries = none) (parameter : Option Word) :
    v.raise code origin parameter = v.enter (v.context.created code origin parameter) := by
  simp only [ListView.raise, absent]

theorem ListView.enter_of_room (room : v.entries.length < Config.listCapacity) :
    v.enter new = { v with entries := insertEntry new v.entries } := if_pos room

theorem ListView.enter_of_eviction (full : ¬ v.entries.length < Config.listCapacity)
    (victim : evictionFor new.treatment.cls v.entries = some e) :
    v.enter new = { v with entries := insertEntry new (withoutEntry e v.entries) } := by
  simp only [ListView.enter, if_neg full, victim]

theorem ListView.enter_of_drop (full : ¬ v.entries.length < Config.listCapacity)
    (none : evictionFor new.treatment.cls v.entries = none) :
    v.enter new = { v with dropped := saturate 65535 v.dropped } := by
  simp only [ListView.enter, if_neg full, none]

theorem ListView.clear_of_held (held : findEntry code origin v.entries = some e) :
    v.clear code origin = v.clearHeld e := by
  simp only [ListView.clear, held]

theorem ListView.clear_of_absent (absent : findEntry code origin v.entries = none) : v.clear code origin = v := by
  simp only [ListView.clear, absent]

end

/-! ## The view under the operations of the list -/

theorem listView_of_touches {fs : List Field} {op : State → State} (h : Touches fs op)
    (away : Field.phase ∉ fs ∧ Field.clock ∉ fs ∧ Field.faults ∉ fs) (s : State) : listView (op s) = listView s := by
  obtain ⟨notPhase, notClock, notFaults⟩ := away
  have phase : (op s).phase = s.phase := h s .phase notPhase
  have clock : (op s).clock = s.clock := h s .clock notClock
  have faults : (op s).faults = s.faults := h s .faults notFaults
  simp only [listView, State.now, phase, clock, faults]

section
variable (s : State)

@[simp] theorem listView_setSpeed (x : SpeedUnit) : listView (s.setSpeed x) = listView s := rfl
@[simp] theorem listView_setSlot (i : Fin 64) (x : Slot) : listView (s.setSlot i x) = listView s := rfl

@[simp] theorem listView_faultReport (event : FaultEvent) (agent : Agent) (e : Entry) :
    listView (faultReport event agent e s) = listView s :=
  listView_of_touches (touches_faultReport event agent e) (by decide) s
@[simp] theorem listView_requestEntryChime (p : ChimePattern) : listView (requestEntryChime p s) = listView s :=
  listView_of_touches (touches_requestEntryChime p) (by decide) s
@[simp] theorem listView_requestContinuous : listView (requestContinuous s) = listView s :=
  listView_of_touches touches_requestContinuous (by decide) s
@[simp] theorem listView_withdrawContinuous : listView (withdrawContinuous s) = listView s :=
  listView_of_touches touches_withdrawContinuous (by decide) s
@[simp] theorem listView_markListChanges (before : FaultList) : listView (markListChanges before s) = listView s :=
  listView_of_touches (touches_markListChanges before) (by decide) s

@[simp] theorem listView_evaluateDemand : listView (evaluateDemand s) = listView s := by
  have held (x : Bool) : listView (s.setFaults { s.faults with demand := x }) = listView s := rfl
  unfold evaluateDemand
  simp only []
  split
  · rfl
  · split <;> simp [held]

/-- Demand, cursor and marks of a list event leave what its change made. -/
@[simp] theorem listView_listEvent (change : State → State) :
    listView (listEvent change s) = listView (change s) := by
  have clamped (u : State) : listView (u.setFaults u.faults.clamped) = listView u := rfl
  simp [listEvent, clamped]

@[simp] theorem listView_announce (e : Entry) : listView (announce e s) = listView s := by
  have cursor (u : State) : listView (u.setFaults { u.faults with cursor := 0 }) = listView u := rfl
  unfold announce
  split
  · simp only []
    split <;> simp [cursor]
  · rfl

theorem newEntry_eq_created (code origin : Nat) (parameter : Option Word) :
    newEntry code origin parameter s = (listView s).context.created code origin parameter := rfl

theorem listView_reraise (agent : Agent) (e : Entry) (parameter : Option Word) :
    listView (reraise agent e parameter s) = { listView s with
      entries := replaceEntry ((listView s).context.reraised e parameter) (listView s).entries } := by
  simp only [reraise, apply_ite listView, listView_announce, listView_faultReport, ite_self]
  rfl

theorem listView_enter (agent : Agent) (e : Entry) :
    listView (enter agent e s) = { listView s with entries := insertEntry e (listView s).entries } := by
  rw [enter, listView_announce, listView_faultReport]
  rfl

theorem listView_evict (e : Entry) :
    listView (evict e s) = { listView s with entries := withoutEntry e (listView s).entries } := by
  rw [evict, listView_faultReport]
  rfl

theorem listView_dropRaise :
    listView (dropRaise s) = { listView s with dropped := saturate 65535 (listView s).dropped } := rfl

/-- A raise by the part makes of the list what R83 to R86 say. -/
theorem listView_takeRaise (code origin : Nat) (parameter : Option Word) :
    listView (takeRaise .part code origin parameter s) = (listView s).raise code origin parameter := by
  simp only [takeRaise, listView_listEvent, raiseOutcome, newEntry_eq_created]
  cases found : findEntry code origin s.faults.entries with
  | some e => exact (listView_reraise s .part e parameter).trans (ListView.raise_of_held found parameter).symm
  | none =>
    rw [ListView.raise_of_new (v := listView s) found]
    by_cases room : s.faults.entries.length < Config.listCapacity
    · simp only [if_pos room, listView_enter, ListView.enter_of_room (v := listView s) room]
    · simp only [if_neg room]
      cases victim : evictionFor (treatmentOf s.faults.catalogue code).cls s.faults.entries with
      | some e =>
        simp only [listView_enter, listView_evict]
        exact (ListView.enter_of_eviction (v := listView s) room victim).symm
      | none =>
        simp only [if_true, listView_faultReport, listView_dropRaise]
        exact (ListView.enter_of_drop (v := listView s) room victim).symm

theorem running_iff_view : s.running = true ↔ (listView s).context.phase = .running := by
  simp [State.running, listView]

theorem listView_internalRaise (code origin : Nat) (parameter : Option Word) :
    listView (internalRaise code origin parameter s) = (listView s).take (.raise code origin parameter) := by
  unfold internalRaise ListView.take
  rw [apply_ite listView, listView_takeRaise]
  simp only [running_iff_view]

theorem listView_clearEntry (e : Entry) : listView (clearEntry .part s e) = (listView s).clearHeld e := by
  unfold clearEntry ListView.clearHeld
  cases e.state
  · exact listView_faultReport _ .cleared .part _
  · exact listView_faultReport _ .removed .part e
  · rfl

theorem listView_internalClear (code origin : Nat) :
    listView (internalClear code origin s) = (listView s).take (.clear code origin) := by
  unfold internalClear ListView.take
  simp only [running_iff_view]
  split
  · cases found : findEntry code origin s.faults.entries with
    | some e =>
      rw [ListView.clear_of_held (v := listView s) found]
      exact (listView_listEvent s _).trans (listView_clearEntry s e)
    | none => exact (ListView.clear_of_absent (v := listView s) found).symm
  · rfl

end

end Sys2Proof.Proofs
end

section
/-! A list in order (R81) under raises and clears: what the acts of R87 leave is what R83 to R88 say. -/

namespace Sys2Proof.Proofs

open Sys2Proof Sys2Proof.Machine Sys2Proof.Safety Sys2Proof.Laws

/-! ## Entries and their keys -/

theorem named_iff {code origin : Nat} {e : Entry} : e.named code origin = true ↔ isEntryOf e code origin := by
  simp [Entry.named]

theorem findEntry_some {code origin : Nat} {entries : List Entry} {e : Entry}
    (found : findEntry code origin entries = some e) : e ∈ entries ∧ isEntryOf e code origin :=
  ⟨List.mem_of_find?_eq_some found, named_iff.mp (List.find?_some found)⟩

theorem findEntry_none_iff {code origin : Nat} {entries : List Entry} :
    findEntry code origin entries = none ↔ ∀ e ∈ entries, ¬ isEntryOf e code origin := by
  simp [findEntry, named_iff]

/-- No two entries of one code and origin. -/
abbrev distinctKeys (entries : List Entry) : Prop := (entries.map (fun e => (e.code, e.origin))).Nodup

/-- The classes in order (R81). -/
abbrev classOrdered (entries : List Entry) : Prop :=
  entries.Pairwise (fun a b => a.treatment.cls.code ≤ b.treatment.cls.code)

theorem eq_of_key {entries : List Entry} (distinct : distinctKeys entries) {e f : Entry} (he : e ∈ entries)
    (hf : f ∈ entries) (key : isEntryOf f e.code e.origin) : f = e :=
  List.inj_on_of_nodup_map distinct hf he (Prod.ext key.1 key.2)

/-- Replacing a held entry changes that entry alone. -/
theorem replaceEntry_eq_map {entries : List Entry} (distinct : distinctKeys entries) {e new : Entry}
    (mem : e ∈ entries) (code : new.code = e.code) (origin : new.origin = e.origin) :
    replaceEntry new entries = entries.map (fun x => if x = e then new else x) := by
  refine List.map_congr_left fun x hx => ?_
  have same : x.named new.code new.origin = true ↔ x = e := by
    rw [named_iff, code, origin]
    exact ⟨eq_of_key distinct mem hx, fun h => h ▸ ⟨rfl, rfl⟩⟩
  simp only [same]

/-- What a replacement keeps of the entry, it keeps of the list. -/
theorem map_replaceEntry {α : Type} {entries : List Entry} (distinct : distinctKeys entries) {e new : Entry}
    (mem : e ∈ entries) (code : new.code = e.code) (origin : new.origin = e.origin) {f : Entry → α}
    (same : f new = f e) : (replaceEntry new entries).map f = entries.map f := by
  rw [replaceEntry_eq_map distinct mem code origin, List.map_map]
  refine List.map_congr_left fun x _ => ?_
  by_cases hit : x = e <;> simp [hit, same]

theorem mem_replaceEntry {entries : List Entry} {new x : Entry} (mem : x ∈ replaceEntry new entries) :
    x = new ∨ x ∈ entries := by
  obtain ⟨y, hy, rfl⟩ := List.mem_map.mp mem
  split
  · exact .inl rfl
  · exact .inr hy

theorem replaceEntry_mem {entries : List Entry} {e new : Entry} (mem : e ∈ entries)
    (key : isEntryOf e new.code new.origin) : new ∈ replaceEntry new entries :=
  List.mem_map.mpr ⟨e, mem, if_pos (named_iff.mpr key)⟩

theorem replaceEntry_keeps {entries : List Entry} {new x : Entry} (mem : x ∈ entries)
    (other : ¬ isEntryOf x new.code new.origin) : x ∈ replaceEntry new entries :=
  List.mem_map.mpr ⟨x, mem, if_neg (mt named_iff.mp other)⟩

/-- Taking a held entry out leaves what stood before and behind it. -/
theorem withoutEntry_append {front rear : List Entry} {e : Entry} (distinct : distinctKeys (front ++ e :: rear)) :
    withoutEntry e (front ++ e :: rear) = front ++ rear := by
  have apart : ∀ x ∈ front, ¬ x.named e.code e.origin = true := by
    intro x hx key
    rw [named_iff] at key
    rw [distinctKeys, List.map_append, List.nodup_append] at distinct
    obtain ⟨-, -, disjoint⟩ := distinct
    exact disjoint _ (List.mem_map_of_mem hx) _ (List.mem_map_of_mem List.mem_cons_self) (Prod.ext key.1 key.2)
  have own : e.named e.code e.origin = true := named_iff.mpr ⟨rfl, rfl⟩
  rw [withoutEntry, List.eraseP_append_right _ apart, List.eraseP_cons_of_pos own]

theorem withoutEntry_sublist (e : Entry) (entries : List Entry) : (withoutEntry e entries).Sublist entries :=
  List.eraseP_sublist

theorem withoutEntry_keeps {entries : List Entry} {e x : Entry} (mem : x ∈ entries)
    (other : ¬ isEntryOf x e.code e.origin) : x ∈ withoutEntry e entries :=
  (List.mem_eraseP_of_neg (mt named_iff.mp other)).mpr mem

theorem insertEntry_perm (new : Entry) (entries : List Entry) : (insertEntry new entries).Perm (new :: entries) := by
  induction entries with
  | nil => exact List.Perm.refl _
  | cons e rest ih =>
    unfold insertEntry
    split
    · exact (ih.cons e).trans (List.Perm.swap new e rest)
    · exact List.Perm.refl _

theorem mem_insertEntry {new x : Entry} {entries : List Entry} :
    x ∈ insertEntry new entries ↔ x = new ∨ x ∈ entries := by
  rw [(insertEntry_perm new entries).mem_iff, List.mem_cons]

/-- In a list in class order the new entry stands first among those of its class. -/
theorem insertEntry_eq_placedByClass {new : Entry} {entries : List Entry} (ordered : classOrdered entries) :
    insertEntry new entries = placedByClass new entries := by
  induction entries with
  | nil => rfl
  | cons e rest ih =>
    obtain ⟨first, ordered⟩ := List.pairwise_cons.mp ordered
    by_cases before : e.treatment.cls.code < new.treatment.cls.code
    · simp [insertEntry, placedByClass, before, ih ordered]
    · have behind : ∀ x ∈ e :: rest, new.treatment.cls.code ≤ x.treatment.cls.code := by
        intro x hx
        rcases List.mem_cons.mp hx with rfl | later
        · omega
        · have := first x later
          omega
      have noneBefore : (e :: rest).filter (fun x => decide (x.treatment.cls.code < new.treatment.cls.code)) = [] :=
        List.filter_eq_nil_iff.mpr fun x hx => by simpa using behind x hx
      have allBehind : (e :: rest).filter (fun x => decide (new.treatment.cls.code ≤ x.treatment.cls.code))
          = e :: rest :=
        List.filter_eq_self.mpr fun x hx => by simpa using behind x hx
      rw [insertEntry, if_neg before, placedByClass, noneBefore, allBehind, List.nil_append]

theorem classOrdered_insertEntry {new : Entry} {entries : List Entry} (ordered : classOrdered entries) :
    classOrdered (insertEntry new entries) := by
  rw [insertEntry_eq_placedByClass ordered, placedByClass, classOrdered, List.pairwise_append, List.pairwise_cons]
  refine ⟨ordered.filter _, ⟨fun x hx => ?_, ordered.filter _⟩, fun a ha b hb => ?_⟩
  · simpa using (List.mem_filter.mp hx).2
  · have low : a.treatment.cls.code < new.treatment.cls.code := by simpa using (List.mem_filter.mp ha).2
    rcases List.mem_cons.mp hb with rfl | behind
    · exact low.le
    · have high : new.treatment.cls.code ≤ b.treatment.cls.code := by simpa using (List.mem_filter.mp behind).2
      exact low.le.trans high

/-! ## The entry a new fault evicts (R85) -/

theorem lt_lowestClass_iff (n : Nat) (entries : List Entry) :
    n < lowestClass entries ↔ ∃ e ∈ entries, n < e.treatment.cls.code := by
  have general (c : Nat) : n < entries.foldl (fun c e => max c e.treatment.cls.code) c
      ↔ n < c ∨ ∃ e ∈ entries, n < e.treatment.cls.code := by
    induction entries generalizing c with
    | nil => simp
    | cons e rest ih => simp [ih, or_assoc]
  simpa [lowestClass] using general 0

theorem le_lowestClass {entries : List Entry} {e : Entry} (mem : e ∈ entries) :
    e.treatment.cls.code ≤ lowestClass entries := by
  by_contra above
  exact lt_irrefl _ ((lt_lowestClass_iff _ entries).mpr ⟨e, mem, Nat.lt_of_not_le above⟩)

/-- The least serious class present is the class of an entry. -/
theorem exists_lowestClass {n : Nat} {entries : List Entry} (below : n < lowestClass entries) :
    ∃ e ∈ entries, e.treatment.cls.code = lowestClass entries := by
  obtain ⟨e, mem, least⟩ := (lt_lowestClass_iff (lowestClass entries - 1) entries).mp (by omega)
  have := le_lowestClass mem
  exact ⟨e, mem, by omega⟩

theorem oldest_some {p : Entry → Bool} {entries : List Entry} {e : Entry} (found : oldest p entries = some e) :
    p e = true ∧ ∃ front rear, entries = front ++ e :: rear ∧ ∀ x ∈ rear, p x = false := by
  obtain ⟨holds, rear, front, split, apart⟩ := List.find?_eq_some_iff_append.mp found
  refine ⟨holds, front.reverse, rear.reverse, ?_, fun x hx => ?_⟩
  · rw [← List.reverse_reverse entries, split]
    simp
  · simpa using apart x (List.mem_reverse.mp hx)

theorem oldest_none {p : Entry → Bool} {entries : List Entry} (absent : oldest p entries = none) :
    ∀ e ∈ entries, p e = false := by
  intro e mem
  simpa using List.find?_eq_none.mp absent e (List.mem_reverse.mpr mem)

/-- The entry that the owning block evicts is the one of R85. -/
theorem evictionFor_some {cls : FaultClass} {entries : List Entry} {e : Entry} (ordered : classOrdered entries)
    (found : evictionFor cls entries = some e) :
    cls.code < e.treatment.cls.code ∧ ∃ front rear, evicts entries front rear e := by
  unfold evictionFor at found
  simp only [] at found
  split at found
  case isFalse => exact absurd found (by simp)
  rename_i below
  have rearLowest {front rear : List Entry} {y : Entry} (split : entries = front ++ y :: rear)
      (lowest : y.treatment.cls.code = lowestClass entries) :
      ∀ x ∈ rear, x.treatment.cls.code = lowestClass entries := by
    intro x hx
    have upper := le_lowestClass (e := x) (entries := entries) (by simp [split, hx])
    rw [split, classOrdered, List.pairwise_append, List.pairwise_cons] at ordered
    obtain ⟨-, ⟨behind, -⟩, -⟩ := ordered
    have lower := behind x hx
    omega
  split at found
  · rename_i y clearedOne
    obtain rfl : y = e := Option.some.inj found
    obtain ⟨holds, front, rear, split, apart⟩ := oldest_some clearedOne
    simp only [Bool.and_eq_true, beq_iff_eq] at holds
    obtain ⟨lowest, state⟩ := holds
    refine ⟨lowest ▸ below, front, rear, split, fun x hx => lowest ▸ le_lowestClass hx,
      .inl ⟨state, fun x hx => ?_⟩⟩
    have := apart x hx
    simpa [rearLowest split lowest x hx] using this
  · rename_i noneCleared
    obtain ⟨holds, front, rear, split, apart⟩ := oldest_some found
    have lowest : e.treatment.cls.code = lowestClass entries := by simpa using holds
    refine ⟨lowest ▸ below, front, rear, split, fun x hx => lowest ▸ le_lowestClass hx,
      .inr ⟨?_, fun x hx same => ?_⟩⟩
    · refine List.eq_nil_iff_forall_not_mem.mpr fun x hx => ?_
      have := apart x hx
      simp [rearLowest split lowest x hx] at this
    · have := oldest_none noneCleared x hx
      simpa [same, lowest] using this

theorem evictionFor_none {cls : FaultClass} {entries : List Entry} (absent : evictionFor cls entries = none) :
    ∀ e ∈ entries, e.treatment.cls.code ≤ cls.code := by
  intro e mem
  by_contra above
  have below := (lt_lowestClass_iff _ entries).mpr ⟨e, mem, Nat.lt_of_not_le above⟩
  simp only [evictionFor, if_pos below] at absent
  split at absent
  · exact absurd absent (by simp)
  · obtain ⟨x, hx, lowest⟩ := exists_lowestClass below
    have := oldest_none absent x hx
    simp [lowest] at this

end Sys2Proof.Proofs
end

section
/-! Runs of acts on a list in order (R87): each act leaves what R83 to R90 say and keeps the order. -/

namespace Sys2Proof.Proofs

open Sys2Proof Sys2Proof.Machine Sys2Proof.Safety Sys2Proof.Laws

/-- A list in order: the part of the list's invariant that a raise or clear reads or must keep. -/
structure ListView.Sound (v : ListView) : Prop where
  distinct : distinctKeys v.entries
  ordered : classOrdered v.entries
  counted : ∀ e ∈ v.entries, e.occurrences ≤ 255
  seen : ∀ e ∈ v.entries, e.visible = visibleUnder v.context.conditions e.treatment.mask e.treatment.mtch
  dropped : v.dropped ≤ 65535

theorem sound_listView {s : State} (sound : listSound s) : (listView s).Sound := by
  obtain ⟨-, -, distinct, ordered, each, -, -, dropped, -⟩ := sound
  exact ⟨distinct, ordered, fun e mem => (each e mem).2.1, fun e mem => (each e mem).2.2, dropped⟩

section
variable {v : ListView} {e new : Entry}

theorem ListView.Sound.replace (sound : v.Sound) (mem : e ∈ v.entries) (code : new.code = e.code)
    (origin : new.origin = e.origin) (treatment : new.treatment = e.treatment) (visible : new.visible = e.visible)
    (counted : new.occurrences ≤ 255) : ListView.Sound { v with entries := replaceEntry new v.entries } := by
  have kept {α : Type} {f : Entry → α} (same : f new = f e) := map_replaceEntry sound.distinct mem code origin same
  refine ⟨?_, ?_, fun x hx => ?_, fun x hx => ?_, sound.dropped⟩
  · rw [distinctKeys, kept (by rw [code, origin])]
    exact sound.distinct
  · have classes := kept (f := fun x => x.treatment.cls.code) (by rw [treatment])
    have ordered := List.pairwise_map.mpr sound.ordered
    rw [← classes] at ordered
    exact List.pairwise_map.mp ordered
  · rcases mem_replaceEntry hx with rfl | old
    · exact counted
    · exact sound.counted x old
  · rcases mem_replaceEntry hx with rfl | old
    · rw [visible, treatment]
      exact sound.seen e mem
    · exact sound.seen x old

theorem ListView.Sound.sublist (sound : v.Sound) {entries : List Entry} (sub : entries.Sublist v.entries) :
    ListView.Sound { v with entries := entries } :=
  ⟨sound.distinct.sublist (sub.map _), sound.ordered.sublist sub, fun x hx => sound.counted x (sub.subset hx),
    fun x hx => sound.seen x (sub.subset hx), sound.dropped⟩

theorem ListView.Sound.insert (sound : v.Sound) (fresh : ∀ x ∈ v.entries, ¬ isEntryOf x new.code new.origin)
    (counted : new.occurrences ≤ 255)
    (seen : new.visible = visibleUnder v.context.conditions new.treatment.mask new.treatment.mtch) :
    ListView.Sound { v with entries := insertEntry new v.entries } := by
  refine ⟨?_, classOrdered_insertEntry sound.ordered, fun x hx => ?_, fun x hx => ?_, sound.dropped⟩
  · rw [distinctKeys, ((insertEntry_perm new v.entries).map _).nodup_iff, List.map_cons, List.nodup_cons]
    refine ⟨fun held => ?_, sound.distinct⟩
    obtain ⟨x, hx, key⟩ := List.mem_map.mp held
    exact fresh x hx ⟨congrArg Prod.fst key, congrArg Prod.snd key⟩
  · rcases mem_insertEntry.mp hx with rfl | old
    · exact counted
    · exact sound.counted x old
  · rcases mem_insertEntry.mp hx with rfl | old
    · exact seen
    · exact sound.seen x old

end

/-! ## What one act leaves -/

section
variable {v : ListView} {code origin : Nat}

theorem reraised_eq_reraisedEntry {e : Entry} (counted : e.occurrences ≤ 255) (x : ListContext)
    (parameter : Option Word) : x.reraised e parameter = reraisedEntry e parameter x.now := by
  unfold ListContext.reraised reraisedEntry
  rw [saturate_eq_min counted]
  cases parameter <;> rfl

theorem ListView.Sound.enter (sound : v.Sound) {new : Entry}
    (fresh : ∀ x ∈ v.entries, ¬ isEntryOf x new.code new.origin) (counted : new.occurrences ≤ 255)
    (seen : new.visible = visibleUnder v.context.conditions new.treatment.mask new.treatment.mtch) :
    (v.enter new).Sound := by
  by_cases room : v.entries.length < Config.listCapacity
  · rw [ListView.enter_of_room room]
    exact sound.insert fresh counted seen
  cases victim : evictionFor new.treatment.cls v.entries with
  | some e =>
    rw [ListView.enter_of_eviction room victim]
    have sub := withoutEntry_sublist e v.entries
    exact (sound.sublist sub).insert (fun x hx => fresh x (sub.subset hx)) counted seen
  | none =>
    rw [ListView.enter_of_drop room victim]
    exact ⟨sound.distinct, sound.ordered, sound.counted, sound.seen, saturate_le sound.dropped⟩

theorem ListView.Sound.raise (sound : v.Sound) (parameter : Option Word) : (v.raise code origin parameter).Sound := by
  cases found : findEntry code origin v.entries with
  | some e =>
    obtain ⟨mem, -⟩ := findEntry_some found
    rw [ListView.raise_of_held found]
    exact sound.replace mem rfl rfl rfl rfl (saturate_le (sound.counted e mem))
  | none =>
    rw [ListView.raise_of_new found]
    exact sound.enter (findEntry_none_iff.mp found) (show 1 ≤ 255 by decide) rfl

theorem ListView.Sound.clearHeld (sound : v.Sound) {e : Entry} (mem : e ∈ v.entries) : (v.clearHeld e).Sound := by
  unfold ListView.clearHeld
  split
  · exact sound.replace mem rfl rfl rfl rfl (sound.counted e mem)
  · exact sound.sublist (withoutEntry_sublist e v.entries)
  · exact sound

theorem ListView.Sound.clear (sound : v.Sound) : (v.clear code origin).Sound := by
  cases found : findEntry code origin v.entries with
  | some e =>
    rw [ListView.clear_of_held found]
    exact sound.clearHeld (findEntry_some found).1
  | none =>
    rw [ListView.clear_of_absent found]
    exact sound

theorem ListView.Sound.take (sound : v.Sound) (act : FaultAct) : (v.take act).Sound := by
  unfold ListView.take
  split
  · cases act with
    | raise code origin parameter => exact sound.raise parameter
    | clear code origin => exact sound.clear
  · exact sound

/-- What a clear of a code and origin makes of each entry (R88, R90). -/
def ListContext.cleared (x : ListContext) (code origin : Nat) (e : Entry) : Option Entry :=
  if isEntryOf e code origin then clearedEntry e x.now else some e

/-- The clear of a held entry is that of its key: no other entry has it. -/
theorem ListView.Sound.clearHeld_eq (sound : v.Sound) {e : Entry} (mem : e ∈ v.entries) :
    v.clearHeld e = { v with entries := v.entries.filterMap (v.context.cleared e.code e.origin) } := by
  have only (x : Entry) (hx : x ∈ v.entries) (other : x ≠ e) : v.context.cleared e.code e.origin x = some x :=
    if_neg (mt (eq_of_key sound.distinct mem hx) other)
  have own : v.context.cleared e.code e.origin e = clearedEntry e v.context.now := if_pos ⟨rfl, rfl⟩
  have stands {l : List Entry} (sub : ∀ x ∈ l, x ∈ v.entries) (apart : e ∉ l) :
      l.filterMap (v.context.cleared e.code e.origin) = l :=
    (List.filterMap_congr fun x hx => only x (sub x hx) (ne_of_mem_of_not_mem hx apart)).trans List.filterMap_some
  unfold ListView.clearHeld
  unfold clearedEntry at own
  cases state : e.state with
  | activeUnacked =>
    simp only [state] at own
    simp only [replaceEntry_eq_map sound.distinct mem, ← List.filterMap_eq_map]
    refine congrArg (fun l => { v with entries := l }) (List.filterMap_congr fun x hx => ?_)
    by_cases hit : x = e
    · simp [hit, own]
    · simp [hit, only x hx hit]
  | activeAcked =>
    simp only [state] at own
    obtain ⟨front, rear, split⟩ := List.append_of_mem mem
    have distinct : (front ++ e :: rear).Nodup := split ▸ sound.distinct.of_map
    obtain ⟨frontApart, rearApart⟩ : e ∉ front ∧ e ∉ rear := by
      simpa using (List.nodup_cons.mp (List.nodup_middle.mp distinct)).1
    simp only [split, withoutEntry_append (split ▸ sound.distinct), List.filterMap_append, List.filterMap_cons, own,
      stands (fun x hx => by simp [split, hx]) frontApart, stands (fun x hx => by simp [split, hx]) rearApart]
  | clearedUnacked =>
    simp only [state] at own
    have same : v.entries.filterMap (v.context.cleared e.code e.origin) = v.entries := by
      refine (List.filterMap_congr fun x hx => ?_).trans List.filterMap_some
      by_cases hit : x = e
      · rw [hit, own]
      · exact only x hx hit
    rw [same]

/-- A clear goes over the entries one by one: at most one has its key. -/
theorem ListView.Sound.clear_eq (sound : v.Sound) :
    v.clear code origin = { v with entries := v.entries.filterMap (v.context.cleared code origin) } := by
  cases found : findEntry code origin v.entries with
  | some e =>
    obtain ⟨mem, rfl, rfl⟩ := findEntry_some found
    rw [ListView.clear_of_held found, sound.clearHeld_eq mem]
  | none =>
    have same : v.entries.filterMap (v.context.cleared code origin) = v.entries :=
      (List.filterMap_congr fun x hx => if_neg (findEntry_none_iff.mp found x hx)).trans List.filterMap_some
    rw [ListView.clear_of_absent found, same]

/-! ## Acts and runs of acts, as R83 to R90 say them -/

/-- A new fault on a list in order: entered, entered for the entry evicted, or dropped. -/
theorem ListView.Sound.enter_leaves (sound : v.Sound) (new : Entry) :
    (v.entries.length < 48 → (v.enter new).entries = placedByClass new v.entries ∧ (v.enter new).dropped = v.dropped)
      ∧ (48 ≤ v.entries.length → (∃ e ∈ v.entries, new.treatment.cls.code < e.treatment.cls.code) →
          ∃ front rear victim, evicts v.entries front rear victim
            ∧ (v.enter new).entries = placedByClass new (front ++ rear) ∧ (v.enter new).dropped = v.dropped)
      ∧ (48 ≤ v.entries.length → (∀ e ∈ v.entries, e.treatment.cls.code ≤ new.treatment.cls.code) →
          (v.enter new).entries = v.entries ∧ (v.enter new).dropped = min 65535 (v.dropped + 1)) := by
  refine ⟨fun room => ?_, fun full worse => ?_, fun full least => ?_⟩
  · rw [ListView.enter_of_room room]
    exact ⟨insertEntry_eq_placedByClass sound.ordered, rfl⟩
  · cases found : evictionFor new.treatment.cls v.entries with
    | none =>
      obtain ⟨e, mem, above⟩ := worse
      exact absurd (evictionFor_none found e mem) (Nat.not_le.mpr above)
    | some victim =>
      obtain ⟨-, front, rear, evicted⟩ := evictionFor_some sound.ordered found
      have left : withoutEntry victim v.entries = front ++ rear := by
        rw [evicted.1]
        exact withoutEntry_append (evicted.1 ▸ sound.distinct)
      have ordered := sound.ordered.sublist (withoutEntry_sublist victim v.entries)
      rw [ListView.enter_of_eviction (Nat.not_lt.mpr full) found]
      exact ⟨front, rear, victim, evicted, left ▸ insertEntry_eq_placedByClass ordered, rfl⟩
  · cases found : evictionFor new.treatment.cls v.entries with
    | none =>
      rw [ListView.enter_of_drop (Nat.not_lt.mpr full) found]
      exact ⟨rfl, saturate_eq_min sound.dropped⟩
    | some victim =>
      obtain ⟨above, front, rear, split, -⟩ := evictionFor_some sound.ordered found
      exact absurd (least victim (by simp [split])) (Nat.not_le.mpr above)

/-- A raise of a held key re-raises its one entry. -/
theorem ListView.Sound.raise_held (sound : v.Sound) (parameter : Option Word)
    (held : ∃ e ∈ v.entries, isEntryOf e code origin) :
    v.raise code origin parameter = { v with entries := v.entries.map (fun e =>
      if isEntryOf e code origin then reraisedEntry e parameter v.context.now else e) } := by
  obtain ⟨e, found⟩ : ∃ e, findEntry code origin v.entries = some e := by
    obtain ⟨x, mem, key⟩ := held
    rw [← Option.isSome_iff_exists, Option.isSome_iff_ne_none, Ne, findEntry_none_iff]
    exact fun absent => absent x mem key
  obtain ⟨mem, rfl, rfl⟩ := findEntry_some found
  rw [ListView.raise_of_held found, reraised_eq_reraisedEntry (sound.counted e mem),
    replaceEntry_eq_map (new := reraisedEntry e parameter v.context.now) sound.distinct mem rfl rfl]
  refine congrArg (fun l => { v with entries := l }) (List.map_congr_left fun x hx => ?_)
  by_cases hit : x = e
  · simp [hit]
  · rw [if_neg hit, if_neg (mt (eq_of_key sound.distinct mem hx) hit)]

/-- One act in RUNNING leaves what the spec says of it. -/
theorem ListView.Sound.take_leaves (sound : v.Sound) (running : v.context.phase = .running) {s : State}
    (context : v.context = (listView s).context) (act : FaultAct) :
    actLeaves s act (v.entries, v.dropped) ((v.take act).entries, (v.take act).dropped) := by
  have now : v.context.now = s.now := congrArg ListContext.now context
  cases act with
  | clear code origin =>
    rw [ListView.take, if_pos running]
    simp only [sound.clear_eq, actLeaves, ← now]
    rfl
  | raise code origin parameter =>
    have created : v.context.created code origin parameter = createdEntry s code origin parameter := by
      rw [context]
      rfl
    have new (absent : ∀ e ∈ v.entries, ¬ isEntryOf e code origin) :
        v.raise code origin parameter = v.enter (createdEntry s code origin parameter) := by
      rw [ListView.raise_of_new (findEntry_none_iff.mpr absent), created]
    obtain ⟨entered, evicting, dropped⟩ := sound.enter_leaves (createdEntry s code origin parameter)
    rw [ListView.take, if_pos running]
    refine ⟨fun held => ?_, fun absent room => ?_, fun absent full worse => ?_, fun absent full least => ?_⟩
    · simp only [sound.raise_held parameter held, now]
    · simp only [new absent]
      exact Prod.ext (entered room).1 (entered room).2
    · obtain ⟨front, rear, victim, evicted, entries, count⟩ := evicting full worse
      simp only [new absent]
      exact ⟨front, rear, victim, evicted, Prod.ext entries count⟩
    · simp only [new absent]
      exact Prod.ext (dropped full least).1 (dropped full least).2

end

@[simp] theorem ListView.take_context (v : ListView) (act : FaultAct) : (v.take act).context = v.context := by
  unfold ListView.take ListView.raise ListView.clear ListView.enter ListView.clearHeld
  repeat' split
  all_goals rfl

@[simp] theorem ListView.foldl_take_context (v : ListView) (acts : List FaultAct) :
    (acts.foldl ListView.take v).context = v.context := by
  induction acts generalizing v with
  | nil => rfl
  | cons act rest ih => rw [List.foldl_cons, ih, ListView.take_context]

theorem ListView.Sound.foldl_take {v : ListView} (sound : v.Sound) (acts : List FaultAct) :
    (acts.foldl ListView.take v).Sound := by
  induction acts generalizing v with
  | nil => exact sound
  | cons act rest ih => exact ih (sound.take act)

/-- A run of acts in RUNNING leaves what the spec says of its acts one after another. -/
theorem ListView.Sound.foldl_take_leaves {v : ListView} (sound : v.Sound) (running : v.context.phase = .running)
    {s : State} (context : v.context = (listView s).context) (acts : List FaultAct) :
    actsLeave s acts (v.entries, v.dropped)
      ((acts.foldl ListView.take v).entries, (acts.foldl ListView.take v).dropped) := by
  induction acts generalizing v with
  | nil => rfl
  | cons act rest ih =>
    have later := ih (sound.take act) (by simpa using running) (by simpa using context)
    exact ⟨_, sound.take_leaves running context act, later⟩

/-! ## Entries that a run of acts leaves held or cleared -/

section
variable {v : ListView} {code origin : Nat} {e : Entry}

/-- One act makes a list longer by one entry at most. -/
theorem ListView.take_length (v : ListView) (act : FaultAct) :
    (v.take act).entries.length ≤ v.entries.length + 1 := by
  have inserted (new : Entry) (entries : List Entry) : (insertEntry new entries).length = entries.length + 1 :=
    (insertEntry_perm new entries).length_eq
  have shorter (e : Entry) : (withoutEntry e v.entries).length ≤ v.entries.length :=
    (withoutEntry_sublist e v.entries).length_le
  have replaced (new : Entry) : (replaceEntry new v.entries).length = v.entries.length := List.length_map _
  unfold ListView.take ListView.raise ListView.clear ListView.enter ListView.clearHeld
  repeat' split
  all_goals grind

theorem ListView.foldl_take_length (v : ListView) (acts : List FaultAct) :
    (acts.foldl ListView.take v).entries.length ≤ v.entries.length + acts.length := by
  induction acts generalizing v with
  | nil => exact Nat.le_refl _
  | cons act rest ih =>
    have first := v.take_length act
    have later := ih (v.take act)
    simp only [List.foldl_cons, List.length_cons]
    omega

/-- The view holds an active entry of a key with a parameter. -/
def ListView.holds (v : ListView) (code origin : Nat) (parameter : Option Word) : Prop :=
  ∃ e ∈ v.entries, isEntryOf e code origin ∧ e.state ≠ .clearedUnacked ∧ e.parameter = parameter

/-- A raise in RUNNING with room in the list leaves an active entry with its parameter (R83, R84). -/
theorem ListView.take_raise_holds (running : v.context.phase = .running) (room : v.entries.length < 48) (p : Word) :
    (v.take (.raise code origin (some p))).holds code origin (some p) := by
  rw [ListView.take, if_pos running]
  cases found : findEntry code origin v.entries with
  | some e =>
    obtain ⟨mem, key⟩ := findEntry_some found
    simp only [ListView.raise_of_held found]
    refine ⟨_, replaceEntry_mem mem ⟨rfl, rfl⟩, key, ?_, rfl⟩
    unfold ListContext.reraised
    by_cases cleared : e.state = .clearedUnacked <;> simp [cleared]
  | none =>
    simp only [ListView.raise_of_new found, ListView.enter_of_room room]
    refine ⟨_, mem_insertEntry.mpr (.inl rfl), ⟨rfl, rfl⟩, ?_, rfl⟩
    unfold ListContext.created
    simp only []
    split <;> decide

/-- A clear leaves every entry of another key as it is (R88). -/
theorem ListView.mem_take_clear (mem : e ∈ v.entries) (other : ¬ isEntryOf e code origin) :
    e ∈ (v.take (.clear code origin)).entries := by
  unfold ListView.take
  split
  · cases found : findEntry code origin v.entries with
    | none => simpa only [ListView.clear_of_absent found] using mem
    | some x =>
      obtain ⟨-, rfl, rfl⟩ := findEntry_some found
      simp only [ListView.clear_of_held found, ListView.clearHeld]
      split
      · exact replaceEntry_keeps mem other
      · exact withoutEntry_keeps mem other
      · exact mem
  · exact mem

/-- No active entry of a key. -/
def ListView.inactive (v : ListView) (code origin : Nat) : Prop :=
  ∀ e ∈ v.entries, isEntryOf e code origin → e.state = .clearedUnacked

/-- A clear in RUNNING leaves no active entry of its key (R88). -/
theorem ListView.Sound.take_clear_inactive (sound : v.Sound) (running : v.context.phase = .running) :
    (v.take (.clear code origin)).inactive code origin := by
  rw [ListView.take, if_pos running]
  simp only [sound.clear_eq]
  intro e mem key
  obtain ⟨x, -, left⟩ := List.mem_filterMap.mp mem
  by_cases own : isEntryOf x code origin
  · rw [ListContext.cleared, if_pos own, clearedEntry] at left
    cases state : x.state with
    | activeUnacked =>
      simp only [state, Option.some.injEq] at left
      rw [← left]
    | activeAcked => simp [state] at left
    | clearedUnacked =>
      simp only [state, Option.some.injEq] at left
      rw [← left, state]
  · rw [ListContext.cleared, if_neg own, Option.some.injEq] at left
    exact absurd (left ▸ key) own

/-- A clear of any key makes no entry active (R88). -/
theorem ListView.inactive.take_clear {code' origin' : Nat} (inactive : v.inactive code origin) :
    (v.take (.clear code' origin')).inactive code origin := by
  unfold ListView.take
  split
  · cases found : findEntry code' origin' v.entries with
    | none => simpa only [ListView.clear_of_absent found] using inactive
    | some x =>
      simp only [ListView.clear_of_held found, ListView.clearHeld]
      split
      · intro e mem key
        rcases mem_replaceEntry mem with rfl | old
        · rfl
        · exact inactive e old key
      · exact fun e mem key => inactive e ((withoutEntry_sublist x v.entries).subset mem) key
      · exact inactive
  · exact inactive

end

end Sys2Proof.Proofs
end

section
/-! The list and slot 0 under the operations of a window end (R18, R80): what the condition word and the write to slot 0
make of the view of the list, and what a presentation keeps of a slot. -/

namespace Sys2Proof.Proofs

open Sys2Proof Sys2Proof.Machine Sys2Proof.Safety Sys2Proof.Laws

/-! ## The condition word (R79, R80) -/

theorem listView_appear (s : State) (e : Entry) : listView (appear s e) = listView s := by
  have cursor (u : State) : listView (u.setFaults { u.faults with cursor := 0 }) = listView u := rfl
  simp only [appear, apply_ite listView, cursor, listView_requestEntryChime, ite_self]

theorem listView_reevaluate (s : State) : listView (reevaluate s)
    = { listView s with entries := (listView s).entries.map (Entry.seenUnder (listView s).context.conditions) } := by
  have appears (l : List Entry) (u : State) : listView (l.foldl appear u) = listView u := by
    induction l generalizing u with
    | nil => rfl
    | cons e rest ih => rw [List.foldl_cons, ih, listView_appear]
  unfold reevaluate
  rw [appears]
  rfl

/-- The view after the word has changed: every entry's visibility is decided again. -/
def ListView.under (conditions : Word) (v : ListView) : ListView :=
  { v with context := { v.context with conditions }, entries := v.entries.map (Entry.seenUnder conditions) }

theorem ListView.inactive.under {v : ListView} {code origin : Nat} (inactive : v.inactive code origin)
    (conditions : Word) : (v.under conditions).inactive code origin := by
  intro e mem key
  obtain ⟨x, held, rfl⟩ := List.mem_map.mp mem
  exact inactive x held key

theorem ListView.holds.under {v : ListView} {code origin : Nat} {parameter : Option Word}
    (holds : v.holds code origin parameter) (conditions : Word) : (v.under conditions).holds code origin parameter := by
  obtain ⟨e, mem, held⟩ := holds
  exact ⟨_, List.mem_map_of_mem mem, held⟩

theorem listView_setConditions_of_ne {s : State} {conditions : Word} (changed : conditions ≠ s.faults.conditions) :
    listView (setConditions conditions s) = (listView s).under conditions := by
  rw [setConditions, if_neg changed, listView_listEvent, listView_reevaluate]
  rfl

theorem under_same {v : ListView} (sound : v.Sound) : v.under v.context.conditions = v := by
  have same : v.entries.map (Entry.seenUnder v.context.conditions) = v.entries := by
    rw [List.map_congr_left (g := id) fun e mem => ?_, List.map_id]
    rw [Entry.seenUnder, ← sound.seen e mem]
    rfl
  rw [ListView.under, same]

/-- In a list in order a word that does not change decides nothing new. -/
theorem listView_setConditions {s : State} (sound : (listView s).Sound) (conditions : Word) :
    listView (setConditions conditions s) = (listView s).under conditions := by
  by_cases same : conditions = s.faults.conditions
  · rw [setConditions, if_pos same, same]
    exact (under_same sound).symm
  · exact listView_setConditions_of_ne same

theorem conditions_setConditions (s : State) (conditions : Word) :
    (setConditions conditions s).faults.conditions = conditions := by
  by_cases same : conditions = s.faults.conditions
  · rw [setConditions, if_pos same, same]
  · exact congrArg (fun v => v.context.conditions) (listView_setConditions_of_ne same)

theorem condition_handFlag (s : State) {bit : Nat} (bound : bit < 16) (value : Bool) :
    (handFlag bit value s).condition bit = value := by
  rw [State.condition, handFlag, conditions_setConditions, getLsbD_withBit _ _ _ _ bound, if_pos rfl]

theorem holds_handFlag {s : State} {code origin : Nat} {parameter : Option Word}
    (holds : (listView s).holds code origin parameter) (bit : Nat) (value : Bool) :
    (listView (handFlag bit value s)).holds code origin parameter := by
  by_cases same : withBit s.faults.conditions bit value = s.faults.conditions
  · rw [handFlag, setConditions, if_pos same]
    exact holds
  · rw [handFlag, listView_setConditions_of_ne same]
    exact holds.under _

/-! ## The frame of the speed unit, the table and the list -/

section
variable (s : State)

@[simp] theorem speed_internalRaise (code origin : Nat) (parameter : Option Word) :
    (internalRaise code origin parameter s).speed = s.speed :=
  touches_internalRaise code origin parameter s .speed (by decide)
@[simp] theorem speed_internalClear (code origin : Nat) : (internalClear code origin s).speed = s.speed :=
  touches_internalClear code origin s .speed (by decide)
@[simp] theorem speed_applyVerdict (code : Nat) (v : Verdict) (parameter : Nat) :
    (applyVerdict code v parameter s).speed = s.speed := touches_applyVerdict code v parameter s .speed (by decide)
@[simp] theorem speed_handFlag (bit : Nat) (value : Bool) : (handFlag bit value s).speed = s.speed :=
  touches_handFlag bit value s .speed (by decide)
@[simp] theorem speed_writeSlotZero (speed : Option Nat) : (writeSlotZero speed s).speed = s.speed :=
  touches_writeSlotZero speed s .speed (by decide)
@[simp] theorem speed_reportWindow (r : ChannelWindow × ChannelWindow) : (reportWindow r s).speed = s.speed :=
  touches_reportWindow r s .speed (by decide)
@[simp] theorem speed_conclude : (conclude s).speed = s.speed := touches_conclude s .speed (by decide)
@[simp] theorem table_deliver (i : Fin 64) (d : SlotDef) (content : Shown) : (deliver i d content s).table = s.table :=
  touches_deliver i d content s .table (by decide)
@[simp] theorem listView_evaluateBand : listView (evaluateBand s) = listView s :=
  listView_of_touches touches_evaluateBand (by decide) s
@[simp] theorem listView_evaluateBandFor (i : Fin 64) : listView (evaluateBandFor i s) = listView s :=
  listView_of_touches (touches_evaluateBandFor i) (by decide) s
@[simp] theorem listView_deliver (i : Fin 64) (d : SlotDef) (content : Shown) :
    listView (deliver i d content s) = listView s :=
  listView_of_touches (touches_deliver i d content) (by decide) s
@[simp] theorem listView_slotReport (i : Fin 64) (cause : Option LapseCause) :
    listView (slotReport i cause s) = listView s := listView_of_touches (touches_slotReport i cause) (by decide) s
@[simp] theorem listView_conclude : listView (conclude s) = listView s :=
  listView_of_touches touches_conclude (by decide) s

end

/-! ## Slot 0 (R3, R18) -/

/-- State, value and last source of a slot: what R18 says of a write and a presentation keeps. -/
def readingOf (i : Fin 64) (s : State) : SlotState × Option Word × Option Nat :=
  (s.table[i].state, s.table[i].value, s.table[i].lastSource)

theorem readingOf_of_touches {fs : List Field} {op : State → State} (h : Touches fs op) (away : Field.table ∉ fs)
    (i : Fin 64) (s : State) : readingOf i (op s) = readingOf i s := by
  have same : (op s).table = s.table := h s .table away
  simp only [readingOf, same]

theorem readingOf_setSlot (i : Fin 64) (x : Slot) (s : State) :
    readingOf i (s.setSlot i x) = (x.state, x.value, x.lastSource) := by
  simp only [readingOf, setSlot_table_self]

theorem readingOf_assess (i : Fin 64) (s : State) : readingOf i (assess s i) = readingOf i s := by
  have marked (b : Bool) : readingOf i (setDegraded i b s) = readingOf i s := readingOf_setSlot i _ s
  have raised (code origin : Nat) (p : Option Word) (u : State) :
      readingOf i (internalRaise code origin p u) = readingOf i u :=
    readingOf_of_touches (touches_internalRaise code origin p) (by decide) i u
  have cleared (code origin : Nat) (u : State) : readingOf i (internalClear code origin u) = readingOf i u :=
    readingOf_of_touches (touches_internalClear code origin) (by decide) i u
  unfold assess
  simp only []
  split
  · split
    · rw [apply_ite (readingOf i), cleared, marked, ite_self]
    · rw [apply_ite (readingOf i), raised, marked, ite_self]
  · rfl

theorem readingOf_deliver (i j : Fin 64) (d : SlotDef) (content : Shown) (s : State) :
    readingOf i (deliver j d content s) = readingOf i s :=
  readingOf_of_touches (touches_deliver j d content) (by decide) i s

theorem readingOf_present (i : Fin 64) (must flashing : Bool) (s : State) :
    readingOf i (present i must flashing s) = readingOf i s := by
  unfold present
  simp only []
  split
  · rw [apply_ite (readingOf i), readingOf_assess, readingOf_deliver, readingOf_setSlot]
    exact ite_self _
  · rfl

theorem assess_of_not_aspect {s : State} {i : Fin 64} (other : s.table[i].isAspect = false) : assess s i = s := by
  simp only [assess, other, Bool.false_and, Bool.false_eq_true, if_false]

section
variable {s : State}

theorem slotZeroFixed_iff : slotZeroFixed s ↔ s.table[(0 : Fin 64)].definition = some .displayedSpeed := by
  rw [slotZeroFixed, reset_slotZero_definition]
  rfl

/-- The presentation of slot 0, a NUMBER slot, asks nothing of the fault list (R115). -/
theorem listView_present_zero (fixed : slotZeroFixed s) (must flashing : Bool) :
    listView (present 0 must flashing s) = listView s := by
  have definition := slotZeroFixed_iff.mp fixed
  unfold present
  simp only [definition]
  split
  · rw [assess_of_not_aspect, listView_deliver, listView_setSlot]
    rw [table_deliver, setSlot_table_self]
    rfl
  · rfl

/-- The lapse of slot 0 asks nothing of the fault list: it has no lapse alarm and is never DEGRADED (R3, R14, R115). -/
theorem listView_lapse_zero (fixed : slotZeroFixed s) (normal : s.table[(0 : Fin 64)].degraded = false)
    (cause : LapseCause) : listView (lapse 0 cause s) = listView s := by
  have undegraded (u : State) : clearDegraded 0 s.table[(0 : Fin 64)].degraded u = u := by
    rw [normal]
    rfl
  have quiet {u : State} (h : slotZeroFixed u) : alarm 0 u = u := by
    simp only [alarm, slotZeroFixed_iff.mp h]
    rfl
  have lapsed : slotZeroFixed (slotReport 0 (some cause) (s.setSlot 0 (Slot.lapse s.table[(0 : Fin 64)]))) :=
    slotZeroFixed_of_definitions ((definitions_slotReport _ 0 _).trans (definitions_setSlot s rfl)) fixed
  simp only [lapse, undegraded, quiet lapsed, listView_evaluateBandFor, listView_present_zero lapsed,
    listView_slotReport, listView_setSlot]

/-- Making slot 0 LIVE asks for the clear of fault 1008, unless the slot was LIVE (R17). -/
theorem listView_madeLive_zero (before : SlotState) (s : State) : listView (madeLive 0 before s) = listView s
    ∨ listView (madeLive 0 before s) = (listView s).take (.clear 1008 64) := by
  unfold madeLive
  split
  · exact .inl rfl
  · refine .inr ((listView_internalClear _ _ _).trans ?_)
    rw [apply_ite listView, listView_slotReport, ite_self]
    rfl

/-- What the write to slot 0 asks of the fault list: the clear of fault 1008 as the slot becomes LIVE (R17, R18). -/
theorem listView_writeSlotZero (fixed : slotZeroFixed s) (normal : s.table[(0 : Fin 64)].degraded = false)
    (speed : Option Nat) : listView (writeSlotZero speed s) = listView s
      ∨ listView (writeSlotZero speed s) = (listView s).take (.clear 1008 64) := by
  cases speed with
  | none =>
    refine .inl ?_
    simp only [writeSlotZero, apply_ite listView, listView_lapse_zero fixed normal, ite_self]
  | some v =>
    simp only [writeSlotZero]
    split
    · exact .inl (listView_setSlot s 0 _)
    · rw [listView_evaluateBand, listView_present_zero]
      · exact listView_madeLive_zero _ _
      · exact slotZeroFixed_of_definitions ((definitions_madeLive _ 0 _).trans (definitions_setSlot s rfl)) fixed

end

theorem readingOf_evaluateBand (i : Fin 64) (s : State) : readingOf i (evaluateBand s) = readingOf i s :=
  readingOf_of_touches touches_evaluateBand (by decide) i s

/-- A speed written to slot 0 makes it LIVE with that value from source 5 (R18). -/
theorem readingOf_writeSlotZero_some (v : Nat) (s : State) :
    readingOf 0 (writeSlotZero (some v) s) = (.live, some (BitVec.ofNat 16 v), some 5) := by
  have live (i : Fin 64) (before : SlotState) (u : State) : readingOf i (madeLive i before u) = readingOf i u :=
    readingOf_of_touches (touches_madeLive i before) (by decide) i u
  simp only [writeSlotZero, apply_ite (readingOf 0), readingOf_evaluateBand, readingOf_present, live, readingOf_setSlot]
  exact ite_self _

theorem readingOf_lapse (i : Fin 64) (cause : LapseCause) (s : State) :
    readingOf i (lapse i cause s) = (.lapsed, none, s.table[i].lastSource) := by
  have band (u : State) : readingOf i (evaluateBandFor i u) = readingOf i u :=
    readingOf_of_touches (touches_evaluateBandFor i) (by decide) i u
  have alarmed (u : State) : readingOf i (alarm i u) = readingOf i u :=
    readingOf_of_touches (touches_alarm i) (by decide) i u
  have cleared (was : Bool) (u : State) : readingOf i (clearDegraded i was u) = readingOf i u :=
    readingOf_of_touches (touches_clearDegraded i was) (by decide) i u
  have reported (u : State) : readingOf i (slotReport i (some cause) u) = readingOf i u :=
    readingOf_of_touches (touches_slotReport i _) (by decide) i u
  rw [lapse, band, readingOf_present, alarmed, cleared, reported, readingOf_setSlot]
  rfl

/-- "No value" written to slot 0 leaves it in a state other than LIVE (R18). -/
theorem state_writeSlotZero_none (s : State) : (readingOf 0 (writeSlotZero none s)).1 ≠ .live := by
  by_cases live : s.table[(0 : Fin 64)].state = .live
  · rw [writeSlotZero, if_pos live, readingOf_lapse]
    exact SlotState.noConfusion
  · rwa [writeSlotZero, if_neg live]

end Sys2Proof.Proofs
end

section
/-! The tables of a window end: the state of agreement, the candidate, the reference check and its reference record, the
displayed direction and the sticky flag (R61 to R71), each as the model computes it. -/

namespace Sys2Proof.Proofs

open Sys2Proof Sys2Proof.Machine Sys2Proof.Safety Sys2Proof.Laws

/-! ## The tables -/

/-- The tolerance is exceeded, as the larger of two bounds or as both (R61). -/
theorem disagreeing_eq_exceedsTolerance (c : SpeedSettings) (v v' : Nat) :
    c.disagreeing v v' = exceedsTolerance c v v' := by
  unfold SpeedSettings.disagreeing exceedsTolerance difference
  rw [← Bool.decide_and, decide_eq_decide, max_lt_iff, Nat.mul_comm c.absoluteTolerance, Nat.mul_comm (max v v'),
    Nat.mul_comm (max v v' - min v v')]

/-- The acts of a verdict (R62, R67). -/
def verdictActs (code : Nat) (parameter : Word) : Verdict → List FaultAct
  | .nothing => []
  | .raise => [.raise code 172 (some parameter)]
  | .clear => [.clear code 172]

theorem listView_applyVerdict (code : Nat) (v : Verdict) (parameter : Nat) (s : State) :
    listView (applyVerdict code v parameter s)
      = (verdictActs code (BitVec.ofNat 16 parameter) v).foldl ListView.take (listView s) := by
  cases v
  · rfl
  · exact listView_internalRaise s code 172 _
  · exact listView_internalClear s code 172

/-- A comparison moves a state of agreement by the table of R62 while its runs lie below the confirm count. -/
theorem compared_agreement {g : Agreement} {confirm : Nat} (below : runsBelow g confirm) (mismatch : Bool) :
    (g.compared confirm mismatch).1 = agreementAfter g confirm mismatch := by
  obtain ⟨mismatchBelow, agreeBelow⟩ := below
  have atMismatch : confirm ≤ g.mismatchRun + 1 ↔ g.mismatchRun + 1 = confirm := by omega
  have atAgree : confirm ≤ g.agreeRun + 1 ↔ g.agreeRun + 1 = confirm := by omega
  unfold Agreement.compared agreementAfter
  cases g.accord <;> cases mismatch <;> simp only [atMismatch, atAgree, apply_ite Prod.fst]

/-- A comparison asks the fault list for what its change of agreement asks (R62, R67). -/
theorem compared_acts (g : Agreement) (confirm : Nat) (mismatch : Bool) (code : Nat) (parameter : Word) :
    verdictActs code parameter (g.compared confirm mismatch).2
      = accordActs code parameter g.accord (g.compared confirm mismatch).1.accord := by
  unfold Agreement.compared
  cases g.accord <;> cases mismatch <;> simp only [accordActs]
  · simp [verdictActs]
  · split <;> simp [verdictActs]
  · split <;> simp [verdictActs]
  · simp [verdictActs]

/-- The fresh reference of quality GOOD, by the record. -/
theorem goodReference_of_fresh {s : State} {f : Reference} (fresh : s.freshReference = some f) :
    s.goodReference = if f.quality = .good then some f else none := by
  simp only [State.goodReference, fresh, Option.filter_some, beq_iff_eq]

theorem goodReference_of_none {s : State} (fresh : s.freshReference = none) : s.goodReference = none := by
  simp only [State.goodReference, fresh, Option.filter_none]

/-- The candidate of the model is that of R65 and R66. -/
theorem candidate_eq_candidateByTable (s : State) (r : ChannelWindow × ChannelWindow) :
    s.candidate r = candidateByTable s.speed.disagreement.accord r.1.status r.2.status r.1.speed r.2.speed
      s.freshReference s.speed.displayed s.speed.holdCount s.speed.settings.holdLimit := by
  unfold State.candidate candidateByTable
  by_cases disagrees : s.speed.disagreement.accord = .disagree
  · rw [if_pos disagrees, if_pos disagrees]
    cases fresh : s.freshReference with
    | none => rw [goodReference_of_none fresh]; rfl
    | some f => by_cases good : f.quality = .good <;> simp [goodReference_of_fresh fresh, referenceCandidate, good]
  rw [if_neg disagrees, if_neg disagrees]
  by_cases good : r.1.status = .good <;> by_cases good' : r.2.status = .good
  · simp [comparable, good, good']
  · simp [comparable, good, good']
  · simp [comparable, good, good']
  simp only [comparable, good, good', beq_iff_eq, Bool.and_eq_true, false_and, if_false]
  cases fresh : s.freshReference with
  | some f => rfl
  | none => unfold State.heldCandidate; cases s.speed.displayed <;> rfl

theorem referenceComparison_eq (s : State) (c : Selection × Option Nat) :
    s.referenceComparison c = comparedWithReference c s.freshReference := by
  obtain ⟨selection, speed⟩ := c
  unfold State.referenceComparison comparedWithReference
  cases speed with
  | none => cases selection <;> rfl
  | some v =>
    cases fresh : s.freshReference with
    | none => rw [goodReference_of_none fresh]; cases selection <;> rfl
    | some f =>
      rw [goodReference_of_fresh fresh]
      by_cases good : f.quality = .good <;> cases selection <;> simp [good, Selection.fromChannels]

theorem directionOf_eq_directionShown (selection : Selection) (r : ChannelWindow × ChannelWindow) :
    directionOf selection r = directionShown selection r.1.direction r.2.direction := by
  cases selection <;> rfl

theorem getLsbD_setSticky (n : Nat) (bound : 1 ≤ n ∧ n ≤ 16) (met : Bool) (sticky : Word) (j : Nat) :
    (setSticky n met sticky).getLsbD j = (sticky.getLsbD j || (met && decide (j = n - 1))) := by
  unfold setSticky
  cases met
  · simp
  · rw [if_pos rfl, getLsbD_withBit _ _ _ _ (by omega)]
    by_cases hit : j = n - 1 <;> simp [hit]

/-- The sticky flag REFERENCE DISAGREE SEEN after a window (R71). -/
theorem stickyAfter_bit_nine (c : SpeedSettings) (r : ChannelWindow × ChannelWindow) (comparison : Option (Nat × Nat))
    (sticky : Word) : (stickyAfter c r comparison sticky).getLsbD 9
      = (sticky.getLsbD 9 || c.referenceDisagreeing comparison) := by
  simp (disch := decide) only [stickyAfter, getLsbD_setSticky]
  simp

/-! ## The reference (R64) -/

/-- After the judgement the fresh reference is the record that R64 calls fresh. -/
theorem freshReference_judgeReference (s : State) : (judgeReference s).freshReference = referenceInUse s := by
  cases record : s.speed.reference with
  | none => simp [judgeReference, State.freshReference, State.referenceNow, referenceInUse, record]
  | some r =>
    by_cases fresh :
        (!r.stale && decide (timeSince s.now r.arrival < deadlineMs s.speed.settings.referenceDeadline)) = true
    · have now : s.referenceNow = .fresh := by simp only [State.referenceNow, record, if_pos fresh]
      have same : judgeReference s = s := by simp only [judgeReference, record, now]
      rw [same, State.freshReference, if_pos now, referenceInUse, record, Option.filter_some]
      exact (if_pos fresh).symm
    · have now : s.referenceNow = .stale := by simp only [State.referenceNow, record, if_neg fresh]
      have stale : judgeReference s = s.setSpeed { s.speed with reference := some { r with stale := true } } := by
        simp only [judgeReference, record, now]
      have later : (judgeReference s).referenceNow = .stale := by rw [stale]; rfl
      rw [State.freshReference, if_neg (by rw [later]; decide), referenceInUse, record, Option.filter_some]
      exact (if_neg fresh).symm

end Sys2Proof.Proofs
end

section
/-! The stages of a window end one after another (R56): what the speed unit, slot 0 and the fault list hold after it. -/

namespace Sys2Proof.Proofs

open Sys2Proof Sys2Proof.Machine Sys2Proof.Safety Sys2Proof.Laws

/-! ## Acts asked in stage order -/

/-- From one view to the next the list has taken acts of these keys, each key once at most and in order. -/
def tookAmong (keys : List (Nat × Nat)) (v w : ListView) : Prop :=
  ∃ acts : List FaultAct, (acts.map FaultAct.key).Sublist keys ∧ w = acts.foldl ListView.take v

theorem tookAmong_none (keys : List (Nat × Nat)) (v : ListView) : tookAmong keys v v := ⟨[], by simp, rfl⟩

theorem tookAmong_one {keys : List (Nat × Nat)} (act : FaultAct) (mem : act.key ∈ keys) (v : ListView) :
    tookAmong keys v (v.take act) := ⟨[act], by simpa using mem, rfl⟩

theorem tookAmong.trans {keys keys' : List (Nat × Nat)} {v w x : ListView} (first : tookAmong keys v w)
    (second : tookAmong keys' w x) : tookAmong (keys ++ keys') v x := by
  obtain ⟨acts, sub, rfl⟩ := first
  obtain ⟨acts', sub', rfl⟩ := second
  exact ⟨acts ++ acts', by rw [List.map_append]; exact sub.append sub', List.foldl_append.symm⟩

/-! ## Stages 1 to 5 -/

/-- The sensor-loss update moves the silent run and the lost mark alone (R60). -/
theorem speed_judgeSensor (id : WheelId) (stepped : Bool) (s : State) : ∃ (run : Nat) (lost : Bool),
    (judgeSensor id stepped s).speed = s.speed.setWheel id { s.wheel id with silentRun := run, lost := lost } := by
  unfold judgeSensor
  simp only []
  split
  · split
    · exact ⟨_, _, speed_internalRaise _ _ _ _⟩
    · exact ⟨_, _, rfl⟩
  · split
    · exact ⟨_, _, speed_internalClear _ _ _⟩
    · exact ⟨_, _, rfl⟩

theorem tookAmong_judgeSensor (id : WheelId) (stepped : Bool) (s : State) :
    tookAmong [(1001, wheelOrigin id)] (listView s) (listView (judgeSensor id stepped s)) := by
  unfold judgeSensor
  simp only []
  split
  · split
    · rw [listView_internalRaise]
      exact tookAmong_one (.raise 1001 (wheelOrigin id) none) (List.mem_singleton.mpr rfl) (listView s)
    · exact tookAmong_none _ _
  · split
    · rw [listView_internalClear]
      exact tookAmong_one (.clear 1001 (wheelOrigin id)) (List.mem_singleton.mpr rfl) (listView s)
    · exact tookAmong_none _ _

theorem hasResults_judgeSensor {s : State} {id : WheelId} {v : Nat} {status : WheelStatus} {d : Direction}
    (results : hasResults s id v status d) (id' : WheelId) (stepped : Bool) :
    hasResults (judgeSensor id' stepped s) id v status d := by
  obtain ⟨run, lost, unit⟩ := speed_judgeSensor id' stepped s
  cases id <;> cases id' <;> simpa only [hasResults, State.wheel, unit, SpeedUnit.setWheel] using results

/-- Stage 1 puts the pending wheel parameters in force (R54). -/
theorem speed_applyPendingWheel (s : State) : ∃ (diameter pulses : Nat) (pending : Option (Nat × Nat)),
    (applyPendingWheel s).speed = { s.speed with
      settings := { s.speed.settings with wheelDiameter := diameter, pulses := pulses }, pendingWheel := pending } := by
  unfold applyPendingWheel
  split
  · exact ⟨_, _, _, rfl⟩
  · exact ⟨s.speed.settings.wheelDiameter, s.speed.settings.pulses, s.speed.pendingWheel, rfl⟩

/-- The state with both windows closed and their results held, before the sensor-loss updates of stage 4. -/
def windowsHeld (r : ChannelWindow × ChannelWindow) (s : State) : State :=
  { s with
    speed := { s.speed with wheelA := s.speed.wheelA.closed r.1, wheelB := s.speed.wheelB.closed r.2 }
    fresh := s.fresh + 2 }

theorem closeWindows_eq (r : ChannelWindow × ChannelWindow) (s : State) :
    closeWindows r s = judgeSensor .b r.2.stepFlag (judgeSensor .a r.1.stepFlag (windowsHeld r s)) := rfl

/-- The results of a window stand with the channels once their windows are closed (R52). -/
theorem hasResults_closeWindows (r : ChannelWindow × ChannelWindow) (s : State) :
    hasResults (closeWindows r s) .a r.1.speed r.1.status r.1.direction
      ∧ hasResults (closeWindows r s) .b r.2.speed r.2.status r.2.direction := by
  have held : hasResults (windowsHeld r s) .a r.1.speed r.1.status r.1.direction
      ∧ hasResults (windowsHeld r s) .b r.2.speed r.2.status r.2.direction := ⟨⟨rfl, rfl, rfl⟩, ⟨rfl, rfl, rfl⟩⟩
  obtain ⟨a, b⟩ := held
  exact ⟨hasResults_judgeSensor (hasResults_judgeSensor a .a _) .b _,
    hasResults_judgeSensor (hasResults_judgeSensor b .a _) .b _⟩

/-- Stages 2 to 4 move the wheels alone (R52, R57 to R60). -/
theorem speed_closeWindows (r : ChannelWindow × ChannelWindow) (s : State) : ∃ a b : Wheel,
    (closeWindows r s).speed = { s.speed with wheelA := a, wheelB := b } := by
  obtain ⟨run, lost, unit⟩ := speed_judgeSensor .a r.1.stepFlag (windowsHeld r s)
  obtain ⟨run', lost', unit'⟩ := speed_judgeSensor .b r.2.stepFlag (judgeSensor .a r.1.stepFlag (windowsHeld r s))
  rw [closeWindows_eq, unit', unit]
  exact ⟨_, _, rfl⟩

theorem tookAmong_closeWindows (r : ChannelWindow × ChannelWindow) (s : State) :
    tookAmong [(1001, 170), (1001, 171)] (listView s) (listView (closeWindows r s)) :=
  (tookAmong_judgeSensor .a r.1.stepFlag (windowsHeld r s)).trans
    (tookAmong_judgeSensor .b r.2.stepFlag (judgeSensor .a r.1.stepFlag (windowsHeld r s)))

/-- The comparison of the channels moves the disagreement state alone (R61, R62). -/
theorem speed_compareChannels (r : ChannelWindow × ChannelWindow) (s : State) : ∃ g : Agreement,
    (compareChannels r s).speed = { s.speed with disagreement := g } := by
  unfold compareChannels
  split
  · exact ⟨_, speed_applyVerdict _ _ _ _⟩
  · exact ⟨s.speed.disagreement, rfl⟩

theorem keys_verdictActs (code : Nat) (parameter : Word) (v : Verdict) :
    ((verdictActs code parameter v).map FaultAct.key).Sublist [(code, 172)] := by
  cases v <;> simp [verdictActs, FaultAct.key]

theorem tookAmong_compareChannels (r : ChannelWindow × ChannelWindow) (s : State) :
    tookAmong [(1000, 172)] (listView s) (listView (compareChannels r s)) := by
  unfold compareChannels
  split
  · simp only [listView_applyVerdict, listView_setSpeed]
    exact ⟨_, keys_verdictActs 1000 _ _, rfl⟩
  · exact tookAmong_none _ _

/-- The judgement of the reference moves the record alone (R64). -/
theorem speed_judgeReference (s : State) : ∃ record : Option Reference,
    (judgeReference s).speed = { s.speed with reference := record } := by
  unfold judgeReference
  split
  · exact ⟨_, rfl⟩
  · exact ⟨s.speed.reference, rfl⟩

theorem listView_judgeReference (s : State) : listView (judgeReference s) = listView s :=
  listView_of_touches touches_judgeReference (by decide) s

/-- What the window that ends has found on the channels, under the settings of stage 1. -/
def windowResults (s : State) : ChannelWindow × ChannelWindow := (applyPendingWheel s).channelWindows

/-- The state after stage 5. -/
def windowCompared (s : State) : State :=
  compareChannels (windowResults s) (closeWindows (windowResults s) (applyPendingWheel s))

section
variable (s : State)

/-- Stages 1 to 5 move the wheel parameters, the wheels and the disagreement state alone. -/
theorem speed_windowCompared : ∃ (diameter pulses : Nat) (pending : Option (Nat × Nat)),
    (windowCompared s).speed = { s.speed with
      settings := { s.speed.settings with wheelDiameter := diameter, pulses := pulses }, pendingWheel := pending
      wheelA := (windowCompared s).speed.wheelA, wheelB := (windowCompared s).speed.wheelB
      disagreement := (windowCompared s).speed.disagreement } := by
  obtain ⟨diameter, pulses, pending, begun⟩ := speed_applyPendingWheel s
  obtain ⟨a, b, closed⟩ := speed_closeWindows (windowResults s) (applyPendingWheel s)
  obtain ⟨g, compared⟩ := speed_compareChannels (windowResults s) (closeWindows (windowResults s) (applyPendingWheel s))
  exact ⟨diameter, pulses, pending, by rw [windowCompared, compared, closed, begun]⟩

theorem hasResults_windowCompared :
    hasResults (windowCompared s) .a (windowResults s).1.speed (windowResults s).1.status (windowResults s).1.direction
      ∧ hasResults (windowCompared s) .b (windowResults s).2.speed (windowResults s).2.status
        (windowResults s).2.direction := by
  obtain ⟨g, compared⟩ := speed_compareChannels (windowResults s) (closeWindows (windowResults s) (applyPendingWheel s))
  simpa only [hasResults, State.wheel, windowCompared, compared] using
    hasResults_closeWindows (windowResults s) (applyPendingWheel s)

theorem tookAmong_windowCompared :
    tookAmong [(1001, 170), (1001, 171), (1000, 172)] (listView s) (listView (windowCompared s)) := by
  have begun : listView (applyPendingWheel s) = listView s :=
    listView_of_touches touches_applyPendingWheel (by decide) s
  rw [← begun]
  exact (tookAmong_closeWindows (windowResults s) (applyPendingWheel s)).trans (tookAmong_compareChannels _ _)

theorem touches_windowCompared : Touches [.fresh, .lp0, .speed, .faults, .chime, .panel] windowCompared := fun s =>
  unchangedExcept_trans (touches_applyPendingWheel.mono (by decide) s)
    (unchangedExcept_trans ((touches_closeWindows _).mono (by decide) _)
      ((touches_compareChannels _).mono (by decide) _))

end

/-! ## Stages 6 and 7 -/

/-- The reference check after a window with this comparison (R67). -/
def referenceCheckAfter (c : SpeedSettings) (g : Agreement) : Option (Nat × Nat) → Agreement
  | some q => agreementAfter g c.confirmCount (exceedsTolerance c q.1 q.2)
  | none => g

/-- The acts of the reference check as it changes (R67). -/
def referenceActs (before after : Accord) : Option (Nat × Nat) → List FaultAct
  | some q => accordActs 1002 (BitVec.ofNat 16 (max q.1 q.2 - min q.1 q.2)) before after
  | none => []

section
variable {s : State} (below : runsBelow s.speed.referenceCheck s.speed.settings.confirmCount)
  (comparison : Option (Nat × Nat))
include below

theorem speed_checkReference : (checkReference comparison s).speed
    = { s.speed with referenceCheck := referenceCheckAfter s.speed.settings s.speed.referenceCheck comparison } := by
  cases comparison with
  | none => rfl
  | some q =>
    simp only [checkReference, speed_applyVerdict, referenceCheckAfter, compared_agreement below,
      disagreeing_eq_exceedsTolerance]
    rfl

theorem listView_checkReference : listView (checkReference comparison s)
    = (referenceActs s.speed.referenceCheck.accord (checkReference comparison s).speed.referenceCheck.accord
        comparison).foldl ListView.take (listView s) := by
  rw [speed_checkReference below]
  cases comparison with
  | none => rfl
  | some q =>
    simp only [checkReference, listView_applyVerdict, compared_acts, listView_setSpeed, referenceActs,
      referenceCheckAfter, compared_agreement below, disagreeing_eq_exceedsTolerance]
    rfl

end

/-- The state after stage 5, with the reference judged for stage 6. -/
def windowJudged (s : State) : State := judgeReference (windowCompared s)

/-- The candidate of stage 6. -/
def windowCandidate (s : State) : Selection × Option Nat := (windowJudged s).candidate (windowResults s)

/-- The speeds that stage 7 compares. -/
def windowComparison (s : State) : Option (Nat × Nat) := (windowJudged s).referenceComparison (windowCandidate s)

/-- The state after stage 7. -/
def windowChecked (s : State) : State := checkReference (windowComparison s) (windowJudged s)

/-- What stage 8 selects and displays. -/
def windowChosen (s : State) : Selection × Option Nat := (windowChecked s).selected (windowCandidate s)

/-- The state after stage 8. -/
def windowWritten (s : State) : State := writeSelection (windowChosen s) (windowChecked s)

/-- The state after stage 9. -/
def windowShown (s : State) : State :=
  showDirection (directionOf (windowChosen s).1 (windowResults s)) (windowWritten s)

theorem windowEnds_eq (s : State) : windowEnds s = reportWindow (windowResults s)
    (storeWindow (windowResults s) (windowComparison s) (updateStandstill (windowChosen s).2 (windowShown s))) := rfl

section
variable (s : State)

theorem freshReference_windowJudged : (windowJudged s).freshReference = referenceInUse s := by
  obtain ⟨diameter, pulses, pending, unit⟩ := speed_windowCompared s
  have clock : (windowCompared s).clock = s.clock := touches_windowCompared s .clock (by decide)
  rw [windowJudged, freshReference_judgeReference, referenceInUse, referenceInUse, unit, State.now, State.now, clock]

/-- Stages 1 to 6 move the wheel parameters, the wheels, the disagreement state and the reference record alone. -/
theorem speed_windowJudged : ∃ (diameter pulses : Nat) (pending : Option (Nat × Nat)) (record : Option Reference),
    (windowJudged s).speed = { s.speed with
      settings := { s.speed.settings with wheelDiameter := diameter, pulses := pulses }, pendingWheel := pending
      wheelA := (windowCompared s).speed.wheelA, wheelB := (windowCompared s).speed.wheelB
      disagreement := (windowCompared s).speed.disagreement, reference := record } := by
  obtain ⟨diameter, pulses, pending, compared⟩ := speed_windowCompared s
  obtain ⟨record, judged⟩ := speed_judgeReference (windowCompared s)
  refine ⟨diameter, pulses, pending, record, ?_⟩
  rw [windowJudged, judged, compared]

/-- The candidate is that of the tables of R65 and R66. -/
theorem windowCandidate_eq : windowCandidate s = candidateByTable (windowCompared s).speed.disagreement.accord
    (windowResults s).1.status (windowResults s).2.status (windowResults s).1.speed (windowResults s).2.speed
    (referenceInUse s) s.speed.displayed s.speed.holdCount s.speed.settings.holdLimit := by
  obtain ⟨diameter, pulses, pending, record, unit⟩ := speed_windowJudged s
  rw [windowCandidate, candidate_eq_candidateByTable, freshReference_windowJudged, unit]

theorem windowComparison_eq : windowComparison s = comparedWithReference (windowCandidate s) (referenceInUse s) := by
  rw [windowComparison, referenceComparison_eq, freshReference_windowJudged]

end

end Sys2Proof.Proofs
end

section
/-! Stages 8 to 13 of a window end (R56), and the statement on its candidate, reference check, selection and
STANDSTILL. -/

namespace Sys2Proof.Proofs

open Sys2Proof Sys2Proof.Machine Sys2Proof.Safety Sys2Proof.Laws

/-! ## Stages 8 to 13 one by one -/

theorem speed_writeSelection (chosen : Selection × Option Nat) (s : State) : (writeSelection chosen s).speed
    = { s.speed with
        selection := chosen.1, displayed := chosen.2
        holdCount := if chosen.1 = .hold then s.speed.holdCount + 1 else 0 } :=
  speed_writeSlotZero _ _

theorem speed_showDirection (d : Direction) (s : State) :
    (showDirection d s).speed = { s.speed with direction := d } := by
  unfold showDirection
  split
  · next same => rw [same]
  · rfl

theorem speed_updateStandstill (displayed : Option Nat) (s : State) : (updateStandstill displayed s).speed
    = { s.speed with lowRun := (standstillAfter displayed s.speed.lowRun (s.condition standstillBit)).1 } :=
  speed_handFlag _ _ _

theorem condition_updateStandstill (displayed : Option Nat) (s : State) :
    (updateStandstill displayed s).condition standstillBit
      = (standstillAfter displayed s.speed.lowRun (s.condition standstillBit)).2 :=
  condition_handFlag _ (by decide) _

theorem listView_showDirection (d : Direction) (s : State) : listView (showDirection d s) = listView s :=
  listView_of_touches (touches_showDirection d) (by decide) s

theorem listView_reportWindow (r : ChannelWindow × ChannelWindow) (s : State) :
    listView (reportWindow r s) = listView s := listView_of_touches (touches_reportWindow r) (by decide) s

theorem speed_storeWindow (r : ChannelWindow × ChannelWindow) (comparison : Option (Nat × Nat)) (s : State) :
    (storeWindow r comparison s).speed = { s.speed with
      sticky := stickyAfter s.speed.settings r comparison s.speed.sticky
      wheelA := { s.speed.wheelA with previous := some r.1.speed }
      wheelB := { s.speed.wheelB with previous := some r.2.speed }
      windowCount := s.speed.windowCount + 1 } := rfl

theorem condition_standstill (s : State) : s.condition standstillBit = s.faults.conditions.getLsbD 12 := by
  rw [State.condition, standstillBit]

theorem condition_eq_view (s : State) (bit : Nat) : s.condition bit = (listView s).context.conditions.getLsbD bit := rfl

theorem listView_storeWindow (r : ChannelWindow × ChannelWindow) (comparison : Option (Nat × Nat)) (s : State) :
    listView (storeWindow r comparison s) = listView s := rfl

/-- Stage 8 asks the fault list for nothing but the clear of fault 1008 (R17, R18). -/
theorem listView_writeSelection {s : State} (fixed : slotZeroFixed s)
    (normal : s.table[(0 : Fin 64)].degraded = false) (chosen : Selection × Option Nat) :
    listView (writeSelection chosen s) = listView s
      ∨ listView (writeSelection chosen s) = (listView s).take (.clear 1008 64) := by
  have written := listView_writeSlotZero (s := s.setSpeed { s.speed with
    selection := chosen.1, displayed := chosen.2
    holdCount := if chosen.1 = .hold then s.speed.holdCount + 1 else 0 }) fixed normal chosen.2
  rwa [listView_setSpeed] at written

/-- Stage 10 decides visibility once more, under the word it leaves (R70, R80). -/
theorem listView_updateStandstill {s : State} (sound : (listView s).Sound) (displayed : Option Nat) :
    ∃ word : Word, listView (updateStandstill displayed s) = (listView s).under word := by
  unfold updateStandstill handFlag
  exact ⟨_, listView_setConditions (by rwa [listView_setSpeed]) _⟩

theorem holds_updateStandstill {s : State} {code origin : Nat} {parameter : Option Word}
    (holds : (listView s).holds code origin parameter) (displayed : Option Nat) :
    (listView (updateStandstill displayed s)).holds code origin parameter := by
  unfold updateStandstill
  exact holds_handFlag (by rwa [listView_setSpeed]) _ _

/-! ## The list after a window end -/

/-- What a window end needs of the state it begins in: slot 0 as R3 fixes it, and runs below the confirm count. -/
structure WindowReady (s : State) : Prop where
  fixed : slotZeroFixed s
  normal : s.table[(0 : Fin 64)].degraded = false
  below : runsBelow s.speed.referenceCheck s.speed.settings.confirmCount

section
variable {s : State} (ready : WindowReady s)
include ready

theorem runsBelow_windowJudged :
    runsBelow (windowJudged s).speed.referenceCheck (windowJudged s).speed.settings.confirmCount := by
  obtain ⟨_, _, _, _, judged⟩ := speed_windowJudged s
  rw [judged]
  exact ready.below

/-- Stages 1 to 7 on the speed unit. -/
theorem speed_windowChecked : ∃ (diameter pulses : Nat) (pending : Option (Nat × Nat)) (record : Option Reference),
    (windowChecked s).speed = { s.speed with
      settings := { s.speed.settings with wheelDiameter := diameter, pulses := pulses }, pendingWheel := pending
      wheelA := (windowCompared s).speed.wheelA, wheelB := (windowCompared s).speed.wheelB
      disagreement := (windowCompared s).speed.disagreement, reference := record
      referenceCheck := referenceCheckAfter s.speed.settings s.speed.referenceCheck (windowComparison s) } := by
  obtain ⟨diameter, pulses, pending, record, judged⟩ := speed_windowJudged s
  refine ⟨diameter, pulses, pending, record, ?_⟩
  rw [windowChecked, speed_checkReference (runsBelow_windowJudged ready), judged]
  rfl

/-- Stage 7 asks the fault list for what the change of the reference check asks (R67). -/
theorem listView_windowChecked : listView (windowChecked s)
    = (referenceActs s.speed.referenceCheck.accord (windowChecked s).speed.referenceCheck.accord
        (windowComparison s)).foldl ListView.take (listView (windowCompared s)) := by
  obtain ⟨_, _, _, _, judged⟩ := speed_windowJudged s
  have accord : (windowJudged s).speed.referenceCheck = s.speed.referenceCheck := by rw [judged]
  rw [windowChecked, listView_checkReference (runsBelow_windowJudged ready), accord, windowJudged,
    listView_judgeReference]

theorem listView_windowWritten : ∃ after : List FaultAct, (after = [] ∨ after = [.clear 1008 64])
    ∧ listView (windowWritten s) = after.foldl ListView.take (listView (windowChecked s)) := by
  have compared : (windowCompared s).table = s.table := touches_windowCompared s .table (by decide)
  have judged : (windowJudged s).table = (windowCompared s).table := touches_judgeReference _ .table (by decide)
  have checked : (windowChecked s).table = (windowJudged s).table :=
    touches_checkReference (windowComparison s) _ .table (by decide)
  have table := checked.trans (judged.trans compared)
  have fixed : slotZeroFixed (windowChecked s) :=
    slotZeroFixed_of_definitions (congrArg (Vector.map Slot.definition) table) ready.fixed
  have normal : (windowChecked s).table[(0 : Fin 64)].degraded = false := by
    simp only [table]
    exact ready.normal
  rcases listView_writeSelection fixed normal (windowChosen s) with same | cleared
  · exact ⟨[], .inl rfl, same⟩
  · exact ⟨[.clear 1008 64], .inr rfl, cleared⟩

end

theorem listView_windowShown (s : State) : listView (windowShown s) = listView (windowWritten s) :=
  listView_showDirection _ _

/-- The acts of a window end in stage order: those of stages 4 and 5, the reference check's, and the clear of
stage 8. -/
theorem windowShown_took {s : State} (ready : WindowReady s) : ∃ before after : List FaultAct,
    (before.map FaultAct.key).Sublist [(1001, 170), (1001, 171), (1000, 172)]
      ∧ (after = [] ∨ after = [.clear 1008 64])
      ∧ listView (windowShown s) = (before ++ (referenceActs s.speed.referenceCheck.accord
          (windowChecked s).speed.referenceCheck.accord (windowComparison s) ++ after)).foldl ListView.take
            (listView s) := by
  obtain ⟨before, sub, compared⟩ := tookAmong_windowCompared s
  obtain ⟨after, one, written⟩ := listView_windowWritten ready
  refine ⟨before, after, sub, one, ?_⟩
  rw [listView_windowShown, written, listView_windowChecked ready, compared, List.foldl_append, List.foldl_append]

theorem sound_windowShown {s : State} (ready : WindowReady s) (sound : (listView s).Sound) :
    (listView (windowShown s)).Sound := by
  obtain ⟨_, _, -, -, shown⟩ := windowShown_took ready
  rw [shown]
  exact sound.foldl_take _

/-- The state a window end leaves. -/
def windowLeft (s : State) : State := conclude (windowEnds s)

/-- A window end decides visibility once more, under the word that stage 10 leaves. -/
theorem listView_windowLeft (s : State) : listView (windowLeft s)
    = listView (updateStandstill (windowChosen s).2 (windowShown s)) := by
  rw [windowLeft, listView_conclude, windowEnds_eq, listView_reportWindow, listView_storeWindow]

theorem conditions_windowShown {s : State} (ready : WindowReady s) (bit : Nat) :
    (windowShown s).condition bit = s.condition bit := by
  obtain ⟨before, after, -, -, shown⟩ := windowShown_took ready
  rw [condition_eq_view, shown, ListView.foldl_take_context, condition_eq_view]

/-! ## The speed unit and slot 0 after a window end -/

section
variable {s : State} (ready : WindowReady s)
include ready

/-- Stages 8 to 12 on the speed unit. -/
theorem speed_windowLeft : (windowLeft s).speed = { (windowChecked s).speed with
    selection := (windowChosen s).1, displayed := (windowChosen s).2
    holdCount := if (windowChosen s).1 = .hold then (windowChecked s).speed.holdCount + 1 else 0
    direction := directionOf (windowChosen s).1 (windowResults s)
    lowRun := (standstillAfter (windowChosen s).2 (windowChecked s).speed.lowRun (s.condition standstillBit)).1
    sticky := stickyAfter (windowChecked s).speed.settings (windowResults s) (windowComparison s)
      (windowChecked s).speed.sticky
    wheelA := { (windowChecked s).speed.wheelA with previous := some (windowResults s).1.speed }
    wheelB := { (windowChecked s).speed.wheelB with previous := some (windowResults s).2.speed }
    windowCount := (windowChecked s).speed.windowCount + 1 } := by
  have shown : (windowShown s).speed = { (windowChecked s).speed with
      selection := (windowChosen s).1, displayed := (windowChosen s).2
      holdCount := if (windowChosen s).1 = .hold then (windowChecked s).speed.holdCount + 1 else 0
      direction := directionOf (windowChosen s).1 (windowResults s) } := by
    rw [windowShown, speed_showDirection, windowWritten, speed_writeSelection]
  rw [windowLeft, speed_conclude, windowEnds_eq, speed_reportWindow, speed_storeWindow,
    speed_updateStandstill, conditions_windowShown ready, shown]

theorem referenceCheck_windowLeft : (windowLeft s).speed.referenceCheck = (windowChecked s).speed.referenceCheck := by
  rw [speed_windowLeft ready]

theorem condition_windowLeft : (windowLeft s).condition standstillBit
    = (standstillAfter (windowChosen s).2 (windowChecked s).speed.lowRun (s.condition standstillBit)).2 := by
  have lowRun : (windowShown s).speed.lowRun = (windowChecked s).speed.lowRun := by
    rw [windowShown, speed_showDirection, windowWritten, speed_writeSelection]
  rw [condition_eq_view, listView_windowLeft, ← condition_eq_view, condition_updateStandstill,
    conditions_windowShown ready, lowRun]

end

theorem readingOf_storeWindow (i : Fin 64) (r : ChannelWindow × ChannelWindow) (comparison : Option (Nat × Nat))
    (s : State) : readingOf i (storeWindow r comparison s) = readingOf i s := rfl

theorem readingOf_windowLeft (s : State) : readingOf 0 (windowLeft s) = readingOf 0 (windowWritten s) := by
  rw [windowLeft, readingOf_of_touches touches_conclude (by decide), windowEnds_eq,
    readingOf_of_touches (touches_reportWindow _) (by decide), readingOf_storeWindow,
    readingOf_of_touches (touches_updateStandstill _) (by decide), windowShown,
    readingOf_of_touches (touches_showDirection _) (by decide)]

/-- A displayed speed stands in slot 0, LIVE from source 5 (R18, R68). -/
theorem slotZero_windowLeft_some {s : State} {shown : Nat} (chosen : (windowChosen s).2 = some shown) :
    (windowLeft s).table[(0 : Fin 64)].state = .live
      ∧ (windowLeft s).table[(0 : Fin 64)].value = some (BitVec.ofNat 16 shown)
      ∧ (windowLeft s).table[(0 : Fin 64)].lastSource = some 5 := by
  have reading : readingOf 0 (windowLeft s) = (.live, some (BitVec.ofNat 16 shown), some 5) := by
    rw [readingOf_windowLeft, windowWritten, writeSelection, chosen]
    exact readingOf_writeSlotZero_some shown _
  simpa only [readingOf, Prod.mk.injEq] using reading

/-- With no displayed speed slot 0 is not LIVE (R18, R68). -/
theorem slotZero_windowLeft_none {s : State} (chosen : (windowChosen s).2 = none) :
    (windowLeft s).table[(0 : Fin 64)].state ≠ .live := by
  have reading : (readingOf 0 (windowLeft s)).1 ≠ .live := by
    rw [readingOf_windowLeft, windowWritten, writeSelection, chosen]
    exact state_writeSlotZero_none _
  simpa only [readingOf] using reading

/-! ## Reading the statement's clauses -/

theorem keys_referenceActs (before after : Accord) (q : Option (Nat × Nat)) :
    ((referenceActs before after q).map FaultAct.key).Sublist [(1002, 172)] := by
  cases q with
  | none => exact List.nil_sublist _
  | some q => cases before <;> cases after <;> simp [referenceActs, accordActs, FaultAct.key]

/-- Acts of one key alone pass the filter of that key. -/
theorem filter_key_self {acts : List FaultAct} {key : Nat × Nat} (keys : (acts.map FaultAct.key).Sublist [key]) :
    acts.filter (fun act => act.key == key) = acts :=
  List.filter_eq_self.mpr fun act mem => by simpa using keys.subset (List.mem_map_of_mem mem)

/-- Acts of other keys do not. -/
theorem filter_key_other {acts : List FaultAct} {keys : List (Nat × Nat)} {key : Nat × Nat}
    (sub : (acts.map FaultAct.key).Sublist keys) (other : key ∉ keys) :
    acts.filter (fun act => act.key == key) = [] := by
  refine List.filter_eq_nil_iff.mpr fun act mem same => other ?_
  rw [← beq_iff_eq.mp same]
  exact sub.subset (List.mem_map_of_mem mem)

theorem holdsFault_iff (t : State) (code origin : Nat) (parameter : Option Word) :
    holdsFault t code origin parameter ↔ (listView t).holds code origin parameter := by
  simp only [holdsFault, ListView.holds, isEntryOf, and_assoc]
  rfl

theorem faultInactive_iff (t : State) (code origin : Nat) :
    faultInactive t code origin ↔ (listView t).inactive code origin :=
  forall₂_congr fun _ _ => and_imp.symm

/-- A run of acts in stage order, and visibility decided again, are the acts of a window end (R56, R80). -/
theorem windowActs_of_took {s t : State} {acts : List FaultAct} {word : Word} (sound : (listView s).Sound)
    (running : s.phase = .running) (keys : (acts.map FaultAct.key).Sublist windowKeys)
    (left : listView t = (acts.foldl ListView.take (listView s)).under word) (key : Nat × Nat) :
    windowActs s t key (acts.filter (fun act => act.key == key)) := by
  have conditions : t.faults.conditions = word := congrArg (fun v => v.context.conditions) left
  have entries : t.faults.entries = (acts.foldl ListView.take (listView s)).entries.map (Entry.seenUnder word) :=
    congrArg ListView.entries left
  have dropped : t.faults.dropped = (acts.foldl ListView.take (listView s)).dropped := congrArg ListView.dropped left
  refine ⟨acts, (_, (acts.foldl ListView.take (listView s)).dropped), keys, rfl,
    sound.foldl_take_leaves running rfl acts, ?_, dropped⟩
  rw [entries, conditions]
  rfl

section
variable {s : State} (ready : WindowReady s)
include ready

/-- The acts of a window end in a list in order, and those with the key of the reference check (R56, R67, R80). -/
theorem windowLeft_took (sound : (listView s).Sound) : ∃ (acts : List FaultAct) (word : Word),
    (acts.map FaultAct.key).Sublist windowKeys
      ∧ acts.filter (fun act => act.key == (1002, 172)) = referenceActs s.speed.referenceCheck.accord
          (windowLeft s).speed.referenceCheck.accord (windowComparison s)
      ∧ listView (windowLeft s) = (acts.foldl ListView.take (listView s)).under word := by
  rw [referenceCheck_windowLeft ready]
  obtain ⟨before, after, beforeKeys, one, shown⟩ := windowShown_took ready
  have afterKeys : (after.map FaultAct.key).Sublist [(1008, 64)] := by
    rcases one with rfl | rfl <;> decide
  have checkKeys := keys_referenceActs s.speed.referenceCheck.accord (windowChecked s).speed.referenceCheck.accord
    (windowComparison s)
  obtain ⟨word, left⟩ := listView_updateStandstill (sound_windowShown ready sound) (windowChosen s).2
  rw [← listView_windowLeft, shown] at left
  refine ⟨_, word, ?_, ?_, left⟩
  · rw [List.map_append, List.map_append]
    exact beforeKeys.append (checkKeys.append afterKeys)
  · rw [List.filter_append, List.filter_append, filter_key_other beforeKeys (by decide), filter_key_self checkKeys,
      filter_key_other afterKeys (by decide), List.nil_append, List.append_nil]

/-- A reference check that comes into DISAGREE with room in the list leaves fault 1002 held with the difference
(R67). -/
theorem holdsFault_windowLeft (running : s.phase = .running) {q : Nat × Nat} (compared : windowComparison s = some q)
    (before : s.speed.referenceCheck.accord = .agree) (after : (windowLeft s).speed.referenceCheck.accord = .disagree)
    (room : s.faults.entries.length ≤ 40) :
    holdsFault (windowLeft s) 1002 172 (some (BitVec.ofNat 16 (max q.1 q.2 - min q.1 q.2))) := by
  rw [referenceCheck_windowLeft ready] at after
  obtain ⟨first, last, firstKeys, one, shown⟩ := windowShown_took ready
  have few : first.length ≤ 3 := by simpa using firstKeys.length_le
  have short : (first.foldl ListView.take (listView s)).entries.length < 48 := by
    have grown := (listView s).foldl_take_length first
    have start : (listView s).entries.length ≤ 40 := room
    omega
  have raised : referenceActs s.speed.referenceCheck.accord (windowChecked s).speed.referenceCheck.accord
      (windowComparison s) = [.raise 1002 172 (some (BitVec.ofNat 16 (max q.1 q.2 - min q.1 q.2)))] := by
    rw [before, after, compared]
    rfl
  have held := ListView.take_raise_holds (code := 1002) (origin := 172) (v := first.foldl ListView.take (listView s))
    (by rwa [ListView.foldl_take_context]) short (BitVec.ofNat 16 (max q.1 q.2 - min q.1 q.2))
  rw [holdsFault_iff, listView_windowLeft]
  refine holds_updateStandstill ?_ _
  rw [shown, raised, List.foldl_append, List.singleton_append, List.foldl_cons]
  rcases one with rfl | rfl
  · exact held
  · obtain ⟨e, mem, key, active⟩ := held
    exact ⟨e, ListView.mem_take_clear mem (fun same => absurd (key.1.symm.trans same.1) (by decide)), key, active⟩

/-- The reference check changes in a window with a comparison alone (R67). -/
theorem exists_windowComparison
    (changed : (windowChecked s).speed.referenceCheck.accord ≠ s.speed.referenceCheck.accord) :
    ∃ q, windowComparison s = some q := by
  obtain ⟨_, _, _, _, checked⟩ := speed_windowChecked ready
  cases compared : windowComparison s with
  | some q => exact ⟨q, rfl⟩
  | none =>
    rw [checked, compared] at changed
    exact absurd rfl changed

/-- A reference check that comes back to AGREE leaves no active fault 1002, in a list in order (R67). -/
theorem faultInactive_windowLeft (running : s.phase = .running) (sound : (listView s).Sound)
    (before : s.speed.referenceCheck.accord = .disagree)
    (after : (windowLeft s).speed.referenceCheck.accord = .agree) : faultInactive (windowLeft s) 1002 172 := by
  rw [referenceCheck_windowLeft ready] at after
  obtain ⟨first, last, -, one, shown⟩ := windowShown_took ready
  obtain ⟨q, compared⟩ := exists_windowComparison ready (by rw [before, after]; decide)
  have cleared : referenceActs s.speed.referenceCheck.accord (windowChecked s).speed.referenceCheck.accord
      (windowComparison s) = [.clear 1002 172] := by
    rw [before, after, compared]
    rfl
  have ordered := sound.foldl_take first
  have none := ordered.take_clear_inactive (code := 1002) (origin := 172) (by rwa [ListView.foldl_take_context])
  have inactive : (listView (windowShown s)).inactive 1002 172 := by
    rw [shown, cleared, List.foldl_append, List.singleton_append, List.foldl_cons]
    rcases one with rfl | rfl
    · exact none
    · exact none.take_clear
  obtain ⟨word, left⟩ := listView_updateStandstill (sound_windowShown ready sound) (windowChosen s).2
  rw [faultInactive_iff, listView_windowLeft, left]
  exact inactive.under word

end

/-! ## The statement -/

theorem exec_windowEnd (s : State) : exec .windowEnd s = .next (effectWindowEnd s) := rfl

/-- The state in which a window end begins, the next one set from its own time (R55). -/
def windowBegun (moment : Time) (s : State) : State :=
  s.setSpeed { s.speed with windowEnd := some (plusMs moment s.speed.settings.windowLength) }

theorem listView_windowBegun (moment : Time) (s : State) : listView (windowBegun moment s) = listView s :=
  listView_setSpeed s _

theorem referenceInUse_windowBegun (moment : Time) (s : State) :
    referenceInUse (windowBegun moment s) = referenceInUse s := by
  have now : (windowBegun moment s).now = s.now := rfl
  have record : (windowBegun moment s).speed.reference = s.speed.reference := rfl
  have settings : (windowBegun moment s).speed.settings = s.speed.settings := rfl
  rw [referenceInUse, now, record, settings, referenceInUse]

theorem effectWindowEnd_of_now {s : State} {moment : Time} (now : windowEndsNow s moment) :
    effectWindowEnd s = windowLeft (windowBegun moment s) := by
  obtain ⟨running, due, reached⟩ := now
  have taken : (s.running && s.reached moment) = true := by rw [State.running, running, reached]; rfl
  simp only [effectWindowEnd, due, taken, if_true]
  rw [windowLeft, windowBegun]

theorem answers_windowEnd {s : State} {moment : Time} (now : windowEndsNow s moment) {post : State → Prop}
    (holds : post (windowLeft (windowBegun moment s))) : answers .windowEnd s post :=
  ⟨_, (exec_windowEnd s).trans (congrArg Host.Outcome.next (effectWindowEnd_of_now now)), holds⟩

theorem windowReady_of_tableSound {s : State} (sound : tableSound s)
    (below : runsBelow s.speed.referenceCheck s.speed.settings.confirmCount) : WindowReady s := by
  obtain ⟨-, slots, definition, -, -⟩ := sound
  obtain ⟨-, -, -, -, -, degraded, -, -⟩ := slots 0
  have number : s.table[(0 : Fin 64)].isAspect = false := (isAspect_of_definition definition).trans rfl
  refine ⟨slotZeroFixed_iff.mpr definition, ?_, below⟩
  by_contra marked
  have aspect := (degraded (by simpa using marked)).2
  rw [number] at aspect
  exact Bool.noConfusion aspect

theorem hasResults_unique {t : State} {id : WheelId} {v v' : Nat} {status status' : WheelStatus} {d d' : Direction}
    (one : hasResults t id v status d) (other : hasResults t id v' status' d') :
    v = v' ∧ status = status' ∧ d = d' := by
  obtain ⟨speed, st, dir⟩ := one
  obtain ⟨speed', st', dir'⟩ := other
  exact ⟨Option.some.inj (speed.symm.trans speed'), Option.some.inj (st.symm.trans st'),
    Option.some.inj (dir.symm.trans dir')⟩

section
variable {s : State} (ready : WindowReady s)
include ready

/-- The state left holds what the window that ended has found. -/
theorem hasResults_windowLeft :
    hasResults (windowLeft s) .a (windowResults s).1.speed (windowResults s).1.status (windowResults s).1.direction
      ∧ hasResults (windowLeft s) .b (windowResults s).2.speed (windowResults s).2.status
        (windowResults s).2.direction := by
  obtain ⟨_, _, _, _, checked⟩ := speed_windowChecked ready
  simpa only [hasResults, State.wheel, speed_windowLeft ready, checked] using hasResults_windowCompared s

/-- Stages 6 to 13 leave the disagreement state of stage 5. -/
theorem disagreement_windowLeft : (windowLeft s).speed.disagreement = (windowCompared s).speed.disagreement := by
  obtain ⟨_, _, _, _, checked⟩ := speed_windowChecked ready
  rw [speed_windowLeft ready, checked]

/-- The reference check after a window end, by the table of R67. -/
theorem referenceCheck_windowLeft_eq : (windowLeft s).speed.referenceCheck
    = referenceCheckAfter s.speed.settings s.speed.referenceCheck (windowComparison s) := by
  obtain ⟨_, _, _, _, checked⟩ := speed_windowChecked ready
  rw [speed_windowLeft ready, checked]

/-- The hold count of R66. -/
theorem holdCount_windowLeft : (windowLeft s).speed.holdCount
    = if (windowLeft s).speed.selection = .hold then s.speed.holdCount + 1 else 0 := by
  obtain ⟨_, _, _, _, checked⟩ := speed_windowChecked ready
  rw [speed_windowLeft ready, checked]

/-- The displayed direction of R69. -/
theorem direction_windowLeft : (windowLeft s).speed.direction
    = directionShown (windowLeft s).speed.selection (windowResults s).1.direction (windowResults s).2.direction := by
  rw [speed_windowLeft ready, directionOf_eq_directionShown]

/-- The sticky flag REFERENCE DISAGREE SEEN after a window end (R71). -/
theorem sticky_windowLeft : (windowLeft s).speed.sticky.getLsbD 9
    = (s.speed.sticky.getLsbD 9 || s.speed.settings.referenceDisagreeing (windowComparison s)) := by
  obtain ⟨_, _, _, _, checked⟩ := speed_windowChecked ready
  rw [speed_windowLeft ready, checked, stickyAfter_bit_nine]
  rfl

theorem windowChosen_shown :
    ((windowLeft s).speed.selection, (windowLeft s).speed.displayed) = windowChosen s := by
  rw [speed_windowLeft ready]

/-- The selection of R68: nothing under WITHDRAW while the check disagrees, else the candidate. -/
theorem windowChosen_eq : windowChosen s = if s.speed.settings.referenceAction = .withdraw
    ∧ (windowLeft s).speed.referenceCheck.accord = .disagree then (.none, none) else windowCandidate s := by
  obtain ⟨_, _, _, _, checked⟩ := speed_windowChecked ready
  rw [windowChosen, State.selected, speed_windowLeft ready, checked]

/-- The low run and STANDSTILL follow the displayed speed (R70). -/
theorem standstill_windowLeft :
    ((windowLeft s).speed.lowRun, (windowLeft s).faults.conditions.getLsbD 12)
      = standstillAfter (windowLeft s).speed.displayed s.speed.lowRun (s.faults.conditions.getLsbD 12) := by
  obtain ⟨_, _, _, _, checked⟩ := speed_windowChecked ready
  rw [← condition_standstill, ← condition_standstill, condition_windowLeft ready, speed_windowLeft ready, checked]

end

/-- Below 0.5 km/h the low run counts and STANDSTILL comes with its third window (R70). -/
theorem standstillAfter_low {shown : Nat} (low : shown < 5) (lowRun : Nat) (standing : Bool) :
    standstillAfter (some shown) lowRun standing = (min 3 (lowRun + 1), standing || decide (3 ≤ lowRun + 1)) := by
  simp only [standstillAfter, if_pos low, Nat.reduceLeDiff]

/-- From 0.5 to 1.0 km/h the low run ends and STANDSTILL stands (R70). -/
theorem standstillAfter_between {shown : Nat} (above : 5 ≤ shown) (below : shown < 10) (lowRun : Nat)
    (standing : Bool) : standstillAfter (some shown) lowRun standing = (0, standing) := by
  simp only [standstillAfter, if_neg (Nat.not_lt.mpr above), if_pos below]

/-- From 1.0 km/h on STANDSTILL goes (R70). -/
theorem standstillAfter_high {shown : Nat} (above : 10 ≤ shown) (lowRun : Nat) (standing : Bool) :
    standstillAfter (some shown) lowRun standing = (0, false) := by
  have notLow : ¬ shown < 5 := by omega
  simp only [standstillAfter, if_neg notLow, if_neg (Nat.not_lt.mpr above)]

/-- Settles O36: the candidate of R65 against the reference, and what the later stages make of the selection. -/
theorem selectionFollowsTables : Obligations.SelectionFollowsTables := by
  intro s moment now table below
  have ready : WindowReady (windowBegun moment s) := windowReady_of_tableSound (s := windowBegun moment s) table below
  have running : (windowBegun moment s).phase = .running := now.1
  refine answers_windowEnd now ?_
  intro v v' status status' d d' candidate standing foundA foundB isCandidate isStanding
  obtain ⟨resultsA, resultsB⟩ := hasResults_windowLeft ready
  obtain ⟨rfl, rfl, rfl⟩ := hasResults_unique resultsA foundA
  obtain ⟨rfl, rfl, rfl⟩ := hasResults_unique resultsB foundB
  obtain rfl : windowCandidate (windowBegun moment s) = candidate := by
    rw [isCandidate, disagreement_windowLeft ready, ← referenceInUse_windowBegun moment s]
    exact windowCandidate_eq (windowBegun moment s)
  have comparison : comparedWithReference (windowCandidate (windowBegun moment s)) (referenceInUse s)
      = windowComparison (windowBegun moment s) := by
    rw [windowComparison_eq, referenceInUse_windowBegun]
  have check := referenceCheck_windowLeft_eq ready
  have sticky := sticky_windowLeft ready
  have inOrder (sound : listSound s) : (listView (windowBegun moment s)).Sound := by
    rw [listView_windowBegun]
    exact sound_listView sound
  have displays {shown : Option Nat} (h : (windowLeft (windowBegun moment s)).speed.displayed = shown) :
      (windowChosen (windowBegun moment s)).2 = shown := by
    rw [← h, ← windowChosen_shown ready]
  have standstill := standstill_windowLeft ready
  rw [windowBegun, State.setSpeed_faults, ← windowBegun, ← isStanding] at standstill
  rw [comparison]
  refine ⟨?_, ?_, fun sound => ?_, fun sound before after => ?_, ?_, holdCount_windowLeft ready, fun shown h => ?_,
    fun h => ?_, direction_windowLeft ready, fun shown h => ?_, fun h => ?_⟩
  · cases compared : windowComparison (windowBegun moment s) <;> rw [check, compared] <;> rfl
  · cases compared : windowComparison (windowBegun moment s) with
    | none =>
      rw [compared] at sticky
      exact sticky.trans (Bool.or_false _)
    | some q =>
      rw [compared] at sticky
      refine ⟨sticky.trans (congrArg _ (disagreeing_eq_exceedsTolerance _ q.1 q.2)), fun before after room => ?_⟩
      exact holdsFault_windowLeft ready running compared before after room
  · obtain ⟨all, word, keys, asked, left⟩ := windowLeft_took ready (inOrder sound)
    rw [listView_windowBegun] at left
    have acts := windowActs_of_took (sound_listView sound) now.1 keys left (1002, 172)
    rw [asked] at acts
    cases compared : windowComparison (windowBegun moment s) <;> rw [compared] at acts <;> exact acts
  · exact faultInactive_windowLeft ready running (inOrder sound) before after
  · rw [windowChosen_shown ready, windowChosen_eq ready]
    rfl
  · exact slotZero_windowLeft_some (displays h)
  · exact slotZero_windowLeft_none (displays h)
  · rw [h] at standstill
    refine ⟨fun low => ?_, fun above below => ?_, fun above => ?_⟩
    · exact Prod.mk.inj (standstill.trans (standstillAfter_low low _ _))
    · exact Prod.mk.inj (standstill.trans (standstillAfter_between above below _ _))
    · exact Prod.mk.inj (standstill.trans (standstillAfter_high above _ _))
  · rw [h] at standstill
    exact Prod.mk.inj standstill

end Sys2Proof.Proofs
end
